-- ==== Sys2Proof/Word.lean ====
section
/-! DEFINITION. The two word types of the machine: the 8-bit data byte and the 16-bit address word
(00_scope.md R5). -/

namespace Sys2Proof

/-- A data byte: "8 bits (A, X, Y, status, every memory byte)" (R5). -/
abbrev Byte := BitVec 8

/-- An address word: "16 bits (PC, bus addresses)" (R5). -/
abbrev Word := BitVec 16

end Sys2Proof
end

