-- ==== Sys2Proof/Machine/Bits.lean ====
section
/-! DEFINITION. The byte and word helpers of 00_scope.md R8. -/

namespace Sys2Proof

/-- `lo8(v) = v mod 256` (R8). -/
def lo8 (v : Word) : Byte := v.setWidth 8

/-- `hi8(v) = (v div 256) mod 256` (R8); the page of an address (R14). -/
def hi8 (v : Word) : Byte := (v >>> 8).setWidth 8

/-- `hi:lo`, the 16-bit value `hi * 256 + lo` (R8). -/
def word (hi lo : Byte) : Word := hi ++ lo

/-- `zext_16(b)` (R8). -/
def zext16 (b : Byte) : Word := b.setWidth 16

/-- `sext_16(b)` (R8). -/
def sext16 (b : Byte) : Word := b.signExtend 16

end Sys2Proof
end

