-- ==== Sys2Proof/Config.lean ====
section
/-! DEFINITION. The implementation parameters of 00_scope.md R6, and the values the spec leaves open
(R37, R51, `STATUS_SHIM_VALUE`), which are opaque constants: nothing can evaluate them. -/

namespace Sys2Proof

/-- `RESET_MODE` (R6, R195). -/
inductive ResetMode where
  /-- PC is loaded from `RESET_VECTOR_ADDR`. -/
  | vector
  /-- PC is `DEBUG_START_PC`, and the status shim of R45 is on. -/
  | debug
deriving DecidableEq, Repr

/-- The order in which the two bytes of a return address are pushed (`BRK_PUSH_ORDER`, R6, R149). -/
inductive PushOrder where
  | highFirst
  | lowFirst
deriving DecidableEq, Repr

/-- The parameters of R6. They are fixed for one machine; "the configuration parameters" are among
what the block holds (R40(b)), so `State` has a field of this type and no instruction writes it. -/
structure Config where
  /-- `MAPPED_SET` is the 231 opcodes of R66 less these (log entry 6). -/
  removed : List Byte
  /-- `RESET_MODE`. -/
  resetMode : ResetMode
  /-- `RESET_VECTOR_ADDR`. -/
  resetVectorAddr : Word
  /-- `DEBUG_START_PC`. -/
  debugStartPc : Word
  /-- `STATUS_SHIM_ADDR`. -/
  statusShimAddr : Word
  /-- `STATUS_SHIM_VALUE`. -/
  statusShimValue : Byte
  /-- `READ16_RETRANSLATE`. -/
  read16Retranslate : Bool
  /-- `BRK_RETURN_OFFSET`. -/
  brkReturnOffset : Nat
  /-- `BRK_PUSH_ORDER`. -/
  brkPushOrder : PushOrder
  /-- `STORE_PAGE_PENALTY`. -/
  storePagePenalty : Bool
  /-- `HW_INTERRUPTS`. -/
  hwInterrupts : Bool
deriving DecidableEq, Repr

/-- FREE VALUE (R37, `INIT_MEM`): the byte a Storage index holds before any write or bank load
("a model must treat each such byte as an unknown value, not as zero"). Log entry 1. -/
opaque Config.freeInitMem : Nat → Byte

/-- FREE VALUE (R51): the answer of the `n`-th `PeripheralRead`, made at a canonical offset
("A model treats its result as a free input (any byte) of the step"). Log entry 2. -/
opaque Config.freePeripheralRead : (offset : Word) → (n : Nat) → Byte

/-- FREE VALUE (R6, `STATUS_SHIM_VALUE`, OPEN: "no default"). Log entry 7. -/
opaque Config.freeStatusShimValue : Byte

/-- Every parameter at the default of R6. -/
def Config.default : Config where
  removed := []
  resetMode := .vector
  resetVectorAddr := 0xFFFC#16
  debugStartPc := 0xC000#16
  statusShimAddr := 0x2002#16
  statusShimValue := Config.freeStatusShimValue
  read16Retranslate := false
  brkReturnOffset := 2
  brkPushOrder := .highFirst
  storePagePenalty := false
  hwInterrupts := false

end Sys2Proof
end

