-- ==== Sys2Proof/Machine/State.lean ====
section
/-! DEFINITION. The machine's state as plain data (10_state.md R15 to R41, 60_exceptions.md R178 R184),
its state after reset, and the reasons a step can stop. -/

namespace Sys2Proof.Machine

/-- Storage (R36): the bytes written or loaded so far, by index, in one canonical form: indices
strictly rising. An index that is not listed holds its unknown `INIT_MEM` byte (R37, log entry 1). -/
abbrev Memory := List Host.Cell

/-- The canonical form of `Memory`: strictly rising indices, each below 65536 (R36). -/
abbrev Memory.wf (m : Memory) : Prop :=
  m.Pairwise (fun c d => c.1 < d.1) ∧ ∀ c ∈ m, c.1 < 0x10000

/-- One call at the peripheral port, with the canonical offset (R50, R51). -/
inductive PortCall where
  /-- `PeripheralRead(offset)` and the byte it answered. -/
  | peripheralRead (offset : Word) (answer : Byte)
  /-- `Sink.on_register_write(offset, value)`. -/
  | registerWrite (offset : Word) (value : Byte)
deriving DecidableEq, Repr

/-- The named bits of `P` (R21). -/
inductive Flag where
  | c | z | i | d | b | u | v | n
deriving DecidableEq, Repr

/-- The two interrupts of the optional extension (R184). -/
inductive Interrupt where
  | nmi | irq
deriving DecidableEq, Repr

/-- The whole machine (INVENTORY.md, State). -/
structure State where
  /-- Accumulator `A` (R16). -/
  a : Byte
  /-- Index register `X` (R17). -/
  x : Byte
  /-- Index register `Y` (R18). -/
  y : Byte
  /-- Stack pointer `SP`; bits 15:8 are hard-wired to 0x01 (R31), which `State.setSp` keeps. -/
  sp : Word
  /-- Status `P`, laid out as R21 says; `State.setP` keeps bit 5 at 1 and bit 4 at 0 (R26, R27). -/
  p : Byte
  /-- Program counter `PC` (R20). -/
  pc : Word
  /-- `Storage[0x0000..0xFFFF]` (R36). -/
  storage : Memory
  /-- The halt mark of the fatal fault (R40(a), R178). -/
  halted : Bool
  /-- The count of banks loaded (R40(c), R58). -/
  banksLoaded : Nat
  /-- The configuration parameters (R40(b), R6). -/
  config : Config
  /-- The NMI latch of the optional extension (R184). -/
  nmiPending : Bool
  /-- The level of the IRQ input of the optional extension (R184). -/
  irqLine : Bool
  /-- MODEL'S OWN: some `step()` has been called, for the refusal of R58 (log entry 8). -/
  started : Bool
  /-- MODEL'S OWN: how many `PeripheralRead` calls were made; it picks the next free input of R51
  (log entry 2). -/
  periphReads : Nat
  /-- MODEL'S OWN: the outputs of the current step at the peripheral port, oldest first (R50, R51,
  R82; log entry 3). -/
  portCalls : List PortCall
  /-- MODEL'S OWN: the cycle count the last step returned (R11, R79; log entry 3). -/
  cycles : Nat
deriving DecidableEq, Repr

/-- The state after `reset()` (R35, R195, R197) of a block with no bank loaded and every parameter at
its default (R6): `PC` is the little-endian word at 0xFFFC, two unknown `INIT_MEM` bytes
(R37; log entries 1 and 5). The fields the spec gives no reset value for are named in log entry 4. -/
def State.reset : State where
  a := 0x00#8
  x := 0x00#8
  y := 0x00#8
  sp := 0x01FD#16
  p := 0x24#8
  pc := Config.freeInitMem 0xFFFD ++ Config.freeInitMem 0xFFFC
  storage := []
  halted := false
  banksLoaded := 0
  config := Config.default
  nmiPending := false
  irqLine := false
  started := false
  periphReads := 0
  portCalls := []
  cycles := 0

/-- Why a step stops. -/
inductive Fault where
  /-- The fatal unmapped-opcode fault (R175, R176), raised by the dispatch of an opcode byte that is
  not in `MAPPED_SET`, with the record of R176 (opcode and the address it was fetched from) and the
  state it leaves (R177, R178). The spec's own fault, with the spec's own record and state: SAFE. -/
  | unmappedOpcode (opcode : Byte) (address : Word) (left : State)
  /-- A step of a block the fatal fault has halted: "`step()` has no further outcome (the model is
  stuck in a fault state that is never final)" (R178, U2). Raised by `step`. SAFE. -/
  | halted
deriving DecidableEq, Repr

/-- Why a call is refused. -/
inductive Refusal where
  /-- An instruction with no meaning yet. No arm answers with it in this model. SAFE. -/
  | notModelled (mnemonic : String)
  /-- `load_bank` after the first `step()` (R58). Raised by `loadBank`. SAFE: R58 says to refuse. -/
  | bankLoadAfterStart
  /-- A third `load_bank` (R58). Raised by `loadBank`. SAFE: R58 says to refuse. -/
  | thirdBankLoad
  /-- `load_bank` at an offset other than 0x8000 or 0xC000 (R58). Raised by `loadBank`. SAFE: R58
  says to refuse. -/
  | bankOffset (offset : Word)
  /-- `reset()` after the fatal fault (R178). Raised by `resetBlock`. SAFE: R178 says to refuse. -/
  | resetAfterFault
deriving DecidableEq, Repr

/-- What a step, or a call of the host interface, answers (R11). -/
abbrev StepOutcome := Host.Outcome State Fault Refusal

end Sys2Proof.Machine
end

