-- ==== Sys2Proof/Machine/Flags.lean ====
section
/-! DEFINITION. The status register: its bits, the one operation that writes it, and every flag
computation of the spec (10_state.md R21 to R30, 42_arithmetic_logic.md R112 R113 R129 to R132). -/

namespace Sys2Proof.Machine

/-- The bit of `P` a flag stands at (R21). -/
def Flag.bit : Flag → Nat
  | .c => 0
  | .z => 1
  | .i => 2
  | .d => 3
  | .b => 4
  | .u => 5
  | .v => 6
  | .n => 7

/-- The byte with only that bit set. -/
def Flag.mask (f : Flag) : Byte := 1#8 <<< f.bit

/-- `P <- (v & 0xCF) | 0x20` (R30): bit 5 "always reads 1" (R27) and the stored `B` is always 0 (R26). -/
def hardwireP (v : Byte) : Byte := (v &&& 0xCF#8) ||| 0x20#8

/-- The one operation that writes `P`. -/
def State.setP (s : State) (v : Byte) : State := { s with p := hardwireP v }

/-- `P.f`. -/
def State.flag (s : State) (f : Flag) : Bool := s.p.getLsbD f.bit

/-- `P.f <- b`. -/
def State.setFlag (s : State) (f : Flag) (b : Bool) : State :=
  s.setP (if b then s.p ||| f.mask else s.p &&& ~~~f.mask)

/-- `SetNZ(v)` (R9): `P.Z <- (v == 0); P.N <- v[7]`. -/
def State.setNZ (s : State) (v : Byte) : State := (s.setFlag .z (v == 0#8)).setFlag .n v.msb

/-- `P` with these flags, laid out as R21 says: `U` reads 1 (R27) and the stored `B` is 0 (R26). -/
def statusByte (n v d i z c : Bool) : Byte :=
  BitVec.ofBool n ++ BitVec.ofBool v ++ 1#1 ++ 0#1 ++ BitVec.ofBool d ++ BitVec.ofBool i ++ BitVec.ofBool z ++
    BitVec.ofBool c

/-- What the 8-bit adder gives: the result byte, its carry and its overflow (R112). -/
structure AddResult where
  value : Byte
  carry : Bool
  overflow : Bool
deriving DecidableEq, Repr

/-- `Add8(a, b, cin)` (R112): the exact sum, narrowed; carry is "unsigned overflow" of the add;
overflow is "`~(a^b) & (a^result) & 0x80`". Binary whatever `P.D` holds (R134). -/
def add8 (a b : Byte) (cin : Bool) : AddResult :=
  let sum := a.toNat + b.toNat + cin.toNat
  let r := BitVec.ofNat 8 sum
  { value := r
    carry := decide (0xFF < sum)
    overflow := (~~~(a ^^^ b) &&& (a ^^^ r) &&& 0x80#8) != 0#8 }

/-- `(r, c, v) <- Add8(A, b, P.C); SetA(r); P.C <- c; P.V <- v` (R114, R115, R170, R174). -/
def State.addToA (s : State) (b : Byte) : State :=
  let r := add8 s.a b (s.flag .c)
  ((({ s with a := r.value }).setNZ r.value).setFlag .c r.carry).setFlag .v r.overflow

/-- `Compare(r, m)` (R113): carry is "no borrow", no register is written, `V` is unchanged. -/
def State.compare (s : State) (r m : Byte) : State :=
  ((s.setFlag .c (decide (m.toNat ≤ r.toNat))).setFlag .z (r == m)).setFlag .n (r - m).msb

/-- `lo8(v << 1)` (R129, R171); the bit shifted out is `v[7]`. -/
def shiftLeft (v : Byte) : Byte := v <<< 1

/-- `v >> 1` (R130, R173); the bit shifted out is `v[0]`. -/
def shiftRight (v : Byte) : Byte := v >>> 1

/-- `lo8((v << 1) | C)` (R131, R172). -/
def rotateLeft (v : Byte) (carry : Bool) : Byte := (v <<< 1) ||| (BitVec.ofBool carry).setWidth 8

/-- `(v >> 1) | (C << 7)` (R132, R174). -/
def rotateRight (v : Byte) (carry : Bool) : Byte :=
  (v >>> 1) ||| ((BitVec.ofBool carry).setWidth 8 <<< 7)

/-- The status byte a software push stores, `P | 0x30` (R26, R149, R152). -/
def pushedBySoftware (p : Byte) : Byte := p ||| 0x30#8

/-- The status byte a hardware interrupt pushes, `(P & 0xEF) | 0x20` (R26, R186). -/
def pushedByInterrupt (p : Byte) : Byte := (p &&& 0xEF#8) ||| 0x20#8

end Sys2Proof.Machine
end

