-- ==== Sys2Proof/Machine/Memory.lean ====
section
/-! DEFINITION. Storage, the address translation, and the bus primitives `read8`, `read16`, `write8`
(20_memory.md R42 to R55). -/

namespace Sys2Proof.Machine

/-- The byte written or loaded at an index, if any. -/
def Memory.lookup : Memory → Nat → Option Byte
  | [], _ => none
  | (k, v) :: rest, i => if i = k then some v else Memory.lookup rest i

/-- Write a byte at an index, keeping the canonical form. -/
def Memory.write : Memory → Nat → Byte → Memory
  | [], i, v => [(i, v)]
  | (k, w) :: rest, i, v =>
    if i < k then (i, v) :: (k, w) :: rest
    else if i = k then (i, v) :: rest
    else (k, w) :: Memory.write rest i v

/-- Write a list of bytes at consecutive indices (R56). -/
def Memory.writeBytes : Memory → Nat → List Byte → Memory
  | m, _, [] => m
  | m, i, v :: vs => Memory.writeBytes (m.write i v) (i + 1) vs

/-- `Storage[i]` (R10): "the raw backing byte at index `i`, with no translation". What an index that
was never written or loaded reads as is the free value of R37. -/
def State.byteAt (s : State) (i : Nat) : Byte := (s.storage.lookup i).getD (Config.freeInitMem i)

/-- `Storage[i] <- v`. -/
def State.setByte (s : State) (i : Nat) (v : Byte) : State :=
  { s with storage := s.storage.write i v }

/-- `translate(a)` (R43, R44). -/
def translate (a : Word) : Word :=
  if a ≤ 0x1FFF#16 then a &&& 0x07FF#16
  else if a ≤ 0x3FFF#16 then 0x2000#16 ||| (a &&& 0x0007#16)
  else a

/-- `PERIPH = {0x2000, ..., 0x2007, 0x4014}` (R45). -/
def isPeriph (t : Word) : Bool := (decide (0x2000#16 ≤ t) && decide (t ≤ 0x2007#16)) || t == 0x4014#16

/-- Whether a read at translated address `t` is answered by the debug-mode status shim (R45). -/
def State.shimmed (s : State) (t : Word) : Bool :=
  s.config.resetMode == .debug && t == s.config.statusShimAddr

/-- One `PeripheralRead(t)` (R51): its answer is a free input of the step. -/
def State.peripheralRead (s : State) (t : Word) : Byte × State :=
  let v := Config.freePeripheralRead t s.periphReads
  (v, { s with periphReads := s.periphReads + 1, portCalls := s.portCalls ++ [.peripheralRead t v] })

/-- `read8(a)` (R45). -/
def State.read8 (s : State) (a : Word) : Byte × State :=
  let t := translate a
  if isPeriph t then
    if s.shimmed t then (s.config.statusShimValue, s) else s.peripheralRead t
  else (s.byteAt t.toNat, s)

/-- `write8(a, v)` (R48): "always updates Storage, and calls the sink exactly once when the translated
address is a peripheral offset". -/
def State.write8 (s : State) (a : Word) (v : Byte) : State :=
  let t := translate a
  let s1 := s.setByte t.toNat v
  if isPeriph t then { s1 with portCalls := s1.portCalls ++ [.registerWrite t v] } else s1

/-- The high byte of `read16(a)` (R47): at the translated address plus one, neither translated again
nor delegated, unless `READ16_RETRANSLATE` is set. -/
def State.read16High (s : State) (a : Word) : Byte × State :=
  if s.config.read16Retranslate then s.read8 (a + 1) else (s.byteAt (translate a + 1).toNat, s)

/-- `read16(a)` (R47), little-endian. -/
def State.read16 (s : State) (a : Word) : Word × State :=
  let lo := s.read8 a
  let hi := lo.2.read16High a
  (word hi.1 lo.1, hi.2)

end Sys2Proof.Machine
end

