-- ==== Sys2Proof/Machine/Ops.lean ====
section
/-! DEFINITION. The named operations over registers and the stack, the instruction-stream fetch,
taking an exception and returning from one (10_state.md R19 R31 to R34, 40_dispatch_and_addressing.md
R75, 60_exceptions.md R175 to R186). -/

namespace Sys2Proof.Machine

/-- `SetA(v)` (R9, R19). -/
def State.setA (s : State) (v : Byte) : State := ({ s with a := v }).setNZ v

/-- `SetX(v)` (R9, R19). -/
def State.setX (s : State) (v : Byte) : State := ({ s with x := v }).setNZ v

/-- `SetY(v)` (R9, R19). -/
def State.setY (s : State) (v : Byte) : State := ({ s with y := v }).setNZ v

/-- `SP <- 0x0100 | lo` (R31): the one operation that writes `SP`; bits 15:8 are hard-wired to 0x01. -/
def State.setSp (s : State) (lo : Byte) : State := { s with sp := 0x0100#16 ||| zext16 lo }

/-- The step returns `Ok(n)` (R11). -/
def State.charge (s : State) (n : Nat) : State := { s with cycles := n }

/-- `Push(v)` (R32). -/
def State.push (s : State) (v : Byte) : State := (s.write8 s.sp v).setSp (lo8 (s.sp - 1))

/-- `Pull()` (R33). -/
def State.pull (s : State) : Byte × State :=
  let s1 := s.setSp (lo8 (s.sp + 1))
  s1.read8 s1.sp

/-- Push the two bytes of an address in the given order (R147, R149). -/
def State.pushWord (s : State) (order : PushOrder) (v : Word) : State :=
  match order with
  | .highFirst => (s.push (hi8 v)).push (lo8 v)
  | .lowFirst => (s.push (lo8 v)).push (hi8 v)

/-- Pull an address, "low, then high" (R148, R150). -/
def State.pullWord (s : State) : Word × State :=
  let lo := s.pull
  let hi := lo.2.pull
  (word hi.1 lo.1, hi.2)

/-- `Fetch8()` (R75): read the byte at `PC` and advance `PC` by one, modulo 65536. -/
def State.fetch8 (s : State) : Byte × State := ({ s with pc := s.pc + 1 }).read8 s.pc

/-- Taking a trap or an interrupt (R149, R180, R186): push the return address, then the status byte,
set `I`, and load `PC` from the vector with `read16`. -/
def State.takeException (s : State) (ret : Word) (order : PushOrder) (status : Byte) (vector : Word) :
    State :=
  let s1 := (((s.pushWord order ret).push status).setFlag .i true)
  let target := s1.read16 vector
  { target.2 with pc := target.1 }

/-- Returning from one (R150, R181): the status first, then `PC` low and high, with no +1. -/
def State.returnFromException (s : State) : State :=
  let status := s.pull
  let target := (status.2.setP status.1).pullWord
  { target.2 with pc := target.1 }

/-- `raise Fatal(UnmappedOpcode{opcode, address})` (R76, R175 to R178), once the opcode byte has been
fetched: the record names the byte and the address it was fetched from (`opPC`); the state left is the
one before the step, `PC` at the unmapped opcode, with the halt mark set. A fetch changes only `PC` and,
at a peripheral offset, the record of the one peripheral read that "has happened" (R177). -/
def raiseFatal (opcode : Byte) (s : State) : StepOutcome :=
  .fault (.unmappedOpcode opcode (s.pc - 1) { s with pc := s.pc - 1, halted := true })

end Sys2Proof.Machine
end

