-- ==== Sys2Proof/Machine/Operands.lean ====
section
/-! DEFINITION. The addressing-mode resolver (40_dispatch_and_addressing.md R85 to R99) and the shapes
that instructions with an operand share: read it, store to it, read-modify-write it. The operand bytes
have been fetched when a meaning runs, so a mode carries them. -/

namespace Sys2Proof.Machine

/-- The addressing modes that name a memory operand, with their operand bytes (R68, R89 to R96). -/
inductive AddrMode where
  | zeroPage (nn : Byte)
  | zeroPageX (nn : Byte)
  | zeroPageY (nn : Byte)
  | absolute (addr : Word)
  | absoluteX (addr : Word)
  | absoluteY (addr : Word)
  /-- `(zero-page,X)` (R95). -/
  | indexedIndirect (nn : Byte)
  /-- `(zero-page),Y` (R96). -/
  | indirectIndexed (nn : Byte)
deriving DecidableEq, Repr

/-- An operand location (R99). -/
inductive Operand where
  | accumulator
  | immediate (nn : Byte)
  | memory (m : AddrMode)
deriving DecidableEq, Repr

/-- A pointer byte in page 0, `MemRead(zext_16(p), 1)` (R95, R96). A read of page 0 has no side effect
(R46), so the resolver keeps no state. -/
def State.zeroPageByte (s : State) (p : Byte) : Byte := (s.read8 (zext16 p)).1

/-- The 16-bit pointer at `p` that "stays entirely inside the zero page" (R95, R96). -/
def State.zeroPagePointer (s : State) (p : Byte) : Word :=
  word (s.zeroPageByte (p + 1)) (s.zeroPageByte p)

/-- `EA` (R89 to R96). -/
def State.effectiveAddress (s : State) : AddrMode → Word
  | .zeroPage nn => zext16 nn
  | .zeroPageX nn => zext16 (nn + s.x)
  | .zeroPageY nn => zext16 (nn + s.y)
  | .absolute addr => addr
  | .absoluteX addr => addr + zext16 s.x
  | .absoluteY addr => addr + zext16 s.y
  | .indexedIndirect nn => s.zeroPagePointer (nn + s.x)
  | .indirectIndexed nn => s.zeroPagePointer nn + zext16 s.y

/-- `crossed` (R85, R93, R94, R96): "crossed iff adding the index overflows the low byte". -/
def State.crossed (s : State) : AddrMode → Bool
  | .absoluteX addr => decide (0xFF < (lo8 addr).toNat + s.x.toNat)
  | .absoluteY addr => decide (0xFF < (lo8 addr).toNat + s.y.toNat)
  | .indirectIndexed nn => decide (0xFF < (s.zeroPageByte nn).toNat + s.y.toNat)
  | .zeroPage _ | .zeroPageX _ | .zeroPageY _ | .absolute _ | .indexedIndirect _ => false

/-- `Operand()` (R99). -/
def State.readOperand (s : State) : Operand → Byte × State
  | .accumulator => (s.a, s)
  | .immediate nn => (nn, s)
  | .memory m => s.read8 (s.effectiveAddress m)

/-- The +1 of a page-crossing read (R79): 1 or 0. -/
def State.pagePenalty (s : State) (m : AddrMode) : Nat := (s.crossed m).toNat

/-- The +1 of an operand: only a memory operand can cross (R85). -/
def State.operandPenalty (s : State) : Operand → Nat
  | .accumulator | .immediate _ => 0
  | .memory m => s.pagePenalty m

/-- An instruction of class `read` (R78, R79, R203): resolve, read the operand once, operate. -/
def readInstr (base : Nat) (o : Operand) (operate : Byte → State → State) (s : State) : StepOutcome :=
  let m := s.readOperand o
  .next ((operate m.1 m.2).charge (base + s.operandPenalty o))

/-- A store (R99, R103): one `write8`, "no read of `EA` is performed", a fixed count (R203). -/
def storeInstr (base : Nat) (m : AddrMode) (v : Byte) (s : State) : StepOutcome :=
  .next ((s.write8 (s.effectiveAddress m) v).charge base)

/-- `WriteBack(v)` (R99), at the address the operand was resolved to. An immediate is never written
back: no read-modify-write row has that mode (R71). -/
def State.writeBack (s : State) (o : Operand) (ea : AddrMode → Word) (v : Byte) : State :=
  match o with
  | .accumulator => { s with a := v }
  | .immediate _ => s
  | .memory m => s.write8 (ea m) v

/-- A read-modify-write (R60, R99, R164): one read, the new byte `compute v` (which may use the old
carry), one write back, then `finish v r` sets the flags and does the second micro-operation. The count
is fixed (R203). -/
def modifyInstr (base : Nat) (o : Operand) (compute : Byte → State → Byte)
    (finish : Byte → Byte → State → State) (s : State) : StepOutcome :=
  let m := s.readOperand o
  let r := compute m.1 m.2
  .next ((finish m.1 r (m.2.writeBack o s.effectiveAddress r)).charge base)

end Sys2Proof.Machine
end

