-- ==== Sys2Proof/Machine/Arithmetic.lean ====
section
/-! DEFINITION. Arithmetic, logic, compare, increment and shift (42_arithmetic_logic.md R112 to R134): for each
instruction its meaning over an operand, then one definition for each row. -/

namespace Sys2Proof.Machine

/-- ADC (R114): `(r, c, v) <- Add8(A, Operand(), P.C); SetA(r); P.C <- c; P.V <- v`. -/
def adcOp (base : Nat) (o : Operand) (s : State) : StepOutcome :=
  readInstr base o (fun m t => t.addToA m) s

/-- 0x61: ADC (zero-page,X). -/
def execAdcIndX (nn : Byte) (s : State) : StepOutcome := adcOp 6 (.memory (.indexedIndirect nn)) s

/-- 0x65: ADC zero-page. -/
def execAdcZp (nn : Byte) (s : State) : StepOutcome := adcOp 3 (.memory (.zeroPage nn)) s

/-- 0x69: ADC immediate. -/
def execAdcImm (nn : Byte) (s : State) : StepOutcome := adcOp 2 (.immediate nn) s

/-- 0x6D: ADC absolute. -/
def execAdcAbs (addr : Word) (s : State) : StepOutcome := adcOp 4 (.memory (.absolute addr)) s

/-- 0x71: ADC (zero-page),Y. -/
def execAdcIndY (nn : Byte) (s : State) : StepOutcome := adcOp 5 (.memory (.indirectIndexed nn)) s

/-- 0x75: ADC zero-page,X. -/
def execAdcZpX (nn : Byte) (s : State) : StepOutcome := adcOp 4 (.memory (.zeroPageX nn)) s

/-- 0x79: ADC absolute,Y. -/
def execAdcAbsY (addr : Word) (s : State) : StepOutcome := adcOp 4 (.memory (.absoluteY addr)) s

/-- 0x7D: ADC absolute,X. -/
def execAdcAbsX (addr : Word) (s : State) : StepOutcome := adcOp 4 (.memory (.absoluteX addr)) s

/-- SBC (R115): `ADC of the bitwise complement of the operand`. -/
def sbcOp (base : Nat) (o : Operand) (s : State) : StepOutcome :=
  readInstr base o (fun m t => t.addToA (~~~m)) s

/-- 0xE1: SBC (zero-page,X). -/
def execSbcIndX (nn : Byte) (s : State) : StepOutcome := sbcOp 6 (.memory (.indexedIndirect nn)) s

/-- 0xE5: SBC zero-page. -/
def execSbcZp (nn : Byte) (s : State) : StepOutcome := sbcOp 3 (.memory (.zeroPage nn)) s

/-- 0xE9: SBC immediate. -/
def execSbcImm (nn : Byte) (s : State) : StepOutcome := sbcOp 2 (.immediate nn) s

/-- 0xED: SBC absolute. -/
def execSbcAbs (addr : Word) (s : State) : StepOutcome := sbcOp 4 (.memory (.absolute addr)) s

/-- 0xF1: SBC (zero-page),Y. -/
def execSbcIndY (nn : Byte) (s : State) : StepOutcome := sbcOp 5 (.memory (.indirectIndexed nn)) s

/-- 0xF5: SBC zero-page,X. -/
def execSbcZpX (nn : Byte) (s : State) : StepOutcome := sbcOp 4 (.memory (.zeroPageX nn)) s

/-- 0xF9: SBC absolute,Y. -/
def execSbcAbsY (addr : Word) (s : State) : StepOutcome := sbcOp 4 (.memory (.absoluteY addr)) s

/-- 0xFD: SBC absolute,X. -/
def execSbcAbsX (addr : Word) (s : State) : StepOutcome := sbcOp 4 (.memory (.absoluteX addr)) s

/-- AND (R116): `SetA(A & Operand())`. -/
def andOp (base : Nat) (o : Operand) (s : State) : StepOutcome :=
  readInstr base o (fun m t => t.setA (t.a &&& m)) s

/-- 0x21: AND (zero-page,X). -/
def execAndIndX (nn : Byte) (s : State) : StepOutcome := andOp 6 (.memory (.indexedIndirect nn)) s

/-- 0x25: AND zero-page. -/
def execAndZp (nn : Byte) (s : State) : StepOutcome := andOp 3 (.memory (.zeroPage nn)) s

/-- 0x29: AND immediate. -/
def execAndImm (nn : Byte) (s : State) : StepOutcome := andOp 2 (.immediate nn) s

/-- 0x2D: AND absolute. -/
def execAndAbs (addr : Word) (s : State) : StepOutcome := andOp 4 (.memory (.absolute addr)) s

/-- 0x31: AND (zero-page),Y. -/
def execAndIndY (nn : Byte) (s : State) : StepOutcome := andOp 5 (.memory (.indirectIndexed nn)) s

/-- 0x35: AND zero-page,X. -/
def execAndZpX (nn : Byte) (s : State) : StepOutcome := andOp 4 (.memory (.zeroPageX nn)) s

/-- 0x39: AND absolute,Y. -/
def execAndAbsY (addr : Word) (s : State) : StepOutcome := andOp 4 (.memory (.absoluteY addr)) s

/-- 0x3D: AND absolute,X. -/
def execAndAbsX (addr : Word) (s : State) : StepOutcome := andOp 4 (.memory (.absoluteX addr)) s

/-- ORA (R117): `SetA(A | Operand())`. -/
def oraOp (base : Nat) (o : Operand) (s : State) : StepOutcome :=
  readInstr base o (fun m t => t.setA (t.a ||| m)) s

/-- 0x01: ORA (zero-page,X). -/
def execOraIndX (nn : Byte) (s : State) : StepOutcome := oraOp 6 (.memory (.indexedIndirect nn)) s

/-- 0x05: ORA zero-page. -/
def execOraZp (nn : Byte) (s : State) : StepOutcome := oraOp 3 (.memory (.zeroPage nn)) s

/-- 0x09: ORA immediate. -/
def execOraImm (nn : Byte) (s : State) : StepOutcome := oraOp 2 (.immediate nn) s

/-- 0x0D: ORA absolute. -/
def execOraAbs (addr : Word) (s : State) : StepOutcome := oraOp 4 (.memory (.absolute addr)) s

/-- 0x11: ORA (zero-page),Y. -/
def execOraIndY (nn : Byte) (s : State) : StepOutcome := oraOp 5 (.memory (.indirectIndexed nn)) s

/-- 0x15: ORA zero-page,X. -/
def execOraZpX (nn : Byte) (s : State) : StepOutcome := oraOp 4 (.memory (.zeroPageX nn)) s

/-- 0x19: ORA absolute,Y. -/
def execOraAbsY (addr : Word) (s : State) : StepOutcome := oraOp 4 (.memory (.absoluteY addr)) s

/-- 0x1D: ORA absolute,X. -/
def execOraAbsX (addr : Word) (s : State) : StepOutcome := oraOp 4 (.memory (.absoluteX addr)) s

/-- EOR (R118): `SetA(A ^ Operand())`. -/
def eorOp (base : Nat) (o : Operand) (s : State) : StepOutcome :=
  readInstr base o (fun m t => t.setA (t.a ^^^ m)) s

/-- 0x41: EOR (zero-page,X). -/
def execEorIndX (nn : Byte) (s : State) : StepOutcome := eorOp 6 (.memory (.indexedIndirect nn)) s

/-- 0x45: EOR zero-page. -/
def execEorZp (nn : Byte) (s : State) : StepOutcome := eorOp 3 (.memory (.zeroPage nn)) s

/-- 0x49: EOR immediate. -/
def execEorImm (nn : Byte) (s : State) : StepOutcome := eorOp 2 (.immediate nn) s

/-- 0x4D: EOR absolute. -/
def execEorAbs (addr : Word) (s : State) : StepOutcome := eorOp 4 (.memory (.absolute addr)) s

/-- 0x51: EOR (zero-page),Y. -/
def execEorIndY (nn : Byte) (s : State) : StepOutcome := eorOp 5 (.memory (.indirectIndexed nn)) s

/-- 0x55: EOR zero-page,X. -/
def execEorZpX (nn : Byte) (s : State) : StepOutcome := eorOp 4 (.memory (.zeroPageX nn)) s

/-- 0x59: EOR absolute,Y. -/
def execEorAbsY (addr : Word) (s : State) : StepOutcome := eorOp 4 (.memory (.absoluteY addr)) s

/-- 0x5D: EOR absolute,X. -/
def execEorAbsX (addr : Word) (s : State) : StepOutcome := eorOp 4 (.memory (.absoluteX addr)) s

/-- BIT (R119): `P.Z <- ((A & m) == 0); P.N <- m[7]; P.V <- m[6]`. -/
def bitOp (base : Nat) (o : Operand) (s : State) : StepOutcome :=
  readInstr base o
    (fun m t => ((t.setFlag .z (t.a &&& m == 0#8)).setFlag .n m.msb).setFlag .v (m.getLsbD 6)) s

/-- 0x24: BIT zero-page. -/
def execBitZp (nn : Byte) (s : State) : StepOutcome := bitOp 3 (.memory (.zeroPage nn)) s

/-- 0x2C: BIT absolute. -/
def execBitAbs (addr : Word) (s : State) : StepOutcome := bitOp 4 (.memory (.absolute addr)) s

/-- CMP (R120): `Compare(A, Operand())`. -/
def cmpOp (base : Nat) (o : Operand) (s : State) : StepOutcome :=
  readInstr base o (fun m t => t.compare t.a m) s

/-- 0xC1: CMP (zero-page,X). -/
def execCmpIndX (nn : Byte) (s : State) : StepOutcome := cmpOp 6 (.memory (.indexedIndirect nn)) s

/-- 0xC5: CMP zero-page. -/
def execCmpZp (nn : Byte) (s : State) : StepOutcome := cmpOp 3 (.memory (.zeroPage nn)) s

/-- 0xC9: CMP immediate. -/
def execCmpImm (nn : Byte) (s : State) : StepOutcome := cmpOp 2 (.immediate nn) s

/-- 0xCD: CMP absolute. -/
def execCmpAbs (addr : Word) (s : State) : StepOutcome := cmpOp 4 (.memory (.absolute addr)) s

/-- 0xD1: CMP (zero-page),Y. -/
def execCmpIndY (nn : Byte) (s : State) : StepOutcome := cmpOp 5 (.memory (.indirectIndexed nn)) s

/-- 0xD5: CMP zero-page,X. -/
def execCmpZpX (nn : Byte) (s : State) : StepOutcome := cmpOp 4 (.memory (.zeroPageX nn)) s

/-- 0xD9: CMP absolute,Y. -/
def execCmpAbsY (addr : Word) (s : State) : StepOutcome := cmpOp 4 (.memory (.absoluteY addr)) s

/-- 0xDD: CMP absolute,X. -/
def execCmpAbsX (addr : Word) (s : State) : StepOutcome := cmpOp 4 (.memory (.absoluteX addr)) s

/-- CPX (R121): `Compare(X, Operand())`. -/
def cpxOp (base : Nat) (o : Operand) (s : State) : StepOutcome :=
  readInstr base o (fun m t => t.compare t.x m) s

/-- 0xE0: CPX immediate. -/
def execCpxImm (nn : Byte) (s : State) : StepOutcome := cpxOp 2 (.immediate nn) s

/-- 0xE4: CPX zero-page. -/
def execCpxZp (nn : Byte) (s : State) : StepOutcome := cpxOp 3 (.memory (.zeroPage nn)) s

/-- 0xEC: CPX absolute. -/
def execCpxAbs (addr : Word) (s : State) : StepOutcome := cpxOp 4 (.memory (.absolute addr)) s

/-- CPY (R122): `Compare(Y, Operand())`. -/
def cpyOp (base : Nat) (o : Operand) (s : State) : StepOutcome :=
  readInstr base o (fun m t => t.compare t.y m) s

/-- 0xC0: CPY immediate. -/
def execCpyImm (nn : Byte) (s : State) : StepOutcome := cpyOp 2 (.immediate nn) s

/-- 0xC4: CPY zero-page. -/
def execCpyZp (nn : Byte) (s : State) : StepOutcome := cpyOp 3 (.memory (.zeroPage nn)) s

/-- 0xCC: CPY absolute. -/
def execCpyAbs (addr : Word) (s : State) : StepOutcome := cpyOp 4 (.memory (.absolute addr)) s

/-- INC (R123): `r <- lo8(Operand() + 1); WriteBack(r); SetNZ(r)`. -/
def incOp (base : Nat) (o : Operand) (s : State) : StepOutcome :=
  modifyInstr base o (fun v _ => v + 1) (fun _ r t => t.setNZ r) s

/-- 0xE6: INC zero-page. -/
def execIncZp (nn : Byte) (s : State) : StepOutcome := incOp 5 (.memory (.zeroPage nn)) s

/-- 0xEE: INC absolute. -/
def execIncAbs (addr : Word) (s : State) : StepOutcome := incOp 6 (.memory (.absolute addr)) s

/-- 0xF6: INC zero-page,X. -/
def execIncZpX (nn : Byte) (s : State) : StepOutcome := incOp 6 (.memory (.zeroPageX nn)) s

/-- 0xFE: INC absolute,X. -/
def execIncAbsX (addr : Word) (s : State) : StepOutcome := incOp 7 (.memory (.absoluteX addr)) s

/-- DEC (R124): `r <- lo8(Operand() - 1); WriteBack(r); SetNZ(r)`. -/
def decOp (base : Nat) (o : Operand) (s : State) : StepOutcome :=
  modifyInstr base o (fun v _ => v - 1) (fun _ r t => t.setNZ r) s

/-- 0xC6: DEC zero-page. -/
def execDecZp (nn : Byte) (s : State) : StepOutcome := decOp 5 (.memory (.zeroPage nn)) s

/-- 0xCE: DEC absolute. -/
def execDecAbs (addr : Word) (s : State) : StepOutcome := decOp 6 (.memory (.absolute addr)) s

/-- 0xD6: DEC zero-page,X. -/
def execDecZpX (nn : Byte) (s : State) : StepOutcome := decOp 6 (.memory (.zeroPageX nn)) s

/-- 0xDE: DEC absolute,X. -/
def execDecAbsX (addr : Word) (s : State) : StepOutcome := decOp 7 (.memory (.absoluteX addr)) s

/-- INX (R125): `SetX(lo8(X + 1))`. -/
def inxOp (base : Nat) (s : State) : StepOutcome := .next ((s.setX (s.x + 1)).charge base)

/-- 0xE8: INX implied. -/
def execInx (s : State) : StepOutcome := inxOp 2 s

/-- INY (R126): `SetY(lo8(Y + 1))`. -/
def inyOp (base : Nat) (s : State) : StepOutcome := .next ((s.setY (s.y + 1)).charge base)

/-- 0xC8: INY implied. -/
def execIny (s : State) : StepOutcome := inyOp 2 s

/-- DEX (R127): `SetX(lo8(X - 1))`. -/
def dexOp (base : Nat) (s : State) : StepOutcome := .next ((s.setX (s.x - 1)).charge base)

/-- 0xCA: DEX implied. -/
def execDex (s : State) : StepOutcome := dexOp 2 s

/-- DEY (R128): `SetY(lo8(Y - 1))`. -/
def deyOp (base : Nat) (s : State) : StepOutcome := .next ((s.setY (s.y - 1)).charge base)

/-- 0x88: DEY implied. -/
def execDey (s : State) : StepOutcome := deyOp 2 s

/-- ASL (R129): `v <- Operand(); P.C <- v[7]; r <- lo8(v << 1); WriteBack(r); SetNZ(r)`. -/
def aslOp (base : Nat) (o : Operand) (s : State) : StepOutcome :=
  modifyInstr base o (fun v _ => shiftLeft v) (fun v r t => (t.setFlag .c v.msb).setNZ r) s

/-- 0x06: ASL zero-page. -/
def execAslZp (nn : Byte) (s : State) : StepOutcome := aslOp 5 (.memory (.zeroPage nn)) s

/-- 0x0A: ASL accumulator. -/
def execAslAcc (s : State) : StepOutcome := aslOp 2 .accumulator s

/-- 0x0E: ASL absolute. -/
def execAslAbs (addr : Word) (s : State) : StepOutcome := aslOp 6 (.memory (.absolute addr)) s

/-- 0x16: ASL zero-page,X. -/
def execAslZpX (nn : Byte) (s : State) : StepOutcome := aslOp 6 (.memory (.zeroPageX nn)) s

/-- 0x1E: ASL absolute,X. -/
def execAslAbsX (addr : Word) (s : State) : StepOutcome := aslOp 7 (.memory (.absoluteX addr)) s

/-- LSR (R130): `v <- Operand(); P.C <- v[0]; r <- v >> 1; WriteBack(r); SetNZ(r)`. -/
def lsrOp (base : Nat) (o : Operand) (s : State) : StepOutcome :=
  modifyInstr base o (fun v _ => shiftRight v) (fun v r t => (t.setFlag .c (v.getLsbD 0)).setNZ r) s

/-- 0x46: LSR zero-page. -/
def execLsrZp (nn : Byte) (s : State) : StepOutcome := lsrOp 5 (.memory (.zeroPage nn)) s

/-- 0x4A: LSR accumulator. -/
def execLsrAcc (s : State) : StepOutcome := lsrOp 2 .accumulator s

/-- 0x4E: LSR absolute. -/
def execLsrAbs (addr : Word) (s : State) : StepOutcome := lsrOp 6 (.memory (.absolute addr)) s

/-- 0x56: LSR zero-page,X. -/
def execLsrZpX (nn : Byte) (s : State) : StepOutcome := lsrOp 6 (.memory (.zeroPageX nn)) s

/-- 0x5E: LSR absolute,X. -/
def execLsrAbsX (addr : Word) (s : State) : StepOutcome := lsrOp 7 (.memory (.absoluteX addr)) s

/-- ROL (R131): `v <- Operand(); r <- lo8((v << 1) | P.C); P.C <- v[7]; WriteBack(r); SetNZ(r)`. -/
def rolOp (base : Nat) (o : Operand) (s : State) : StepOutcome :=
  modifyInstr base o (fun v t => rotateLeft v (t.flag .c)) (fun v r t => (t.setFlag .c v.msb).setNZ r) s

/-- 0x26: ROL zero-page. -/
def execRolZp (nn : Byte) (s : State) : StepOutcome := rolOp 5 (.memory (.zeroPage nn)) s

/-- 0x2A: ROL accumulator. -/
def execRolAcc (s : State) : StepOutcome := rolOp 2 .accumulator s

/-- 0x2E: ROL absolute. -/
def execRolAbs (addr : Word) (s : State) : StepOutcome := rolOp 6 (.memory (.absolute addr)) s

/-- 0x36: ROL zero-page,X. -/
def execRolZpX (nn : Byte) (s : State) : StepOutcome := rolOp 6 (.memory (.zeroPageX nn)) s

/-- 0x3E: ROL absolute,X. -/
def execRolAbsX (addr : Word) (s : State) : StepOutcome := rolOp 7 (.memory (.absoluteX addr)) s

/-- ROR (R132): `v <- Operand(); r <- (v >> 1) | (P.C << 7); P.C <- v[0]; WriteBack(r); SetNZ(r)`. -/
def rorOp (base : Nat) (o : Operand) (s : State) : StepOutcome :=
  modifyInstr base o (fun v t => rotateRight v (t.flag .c)) (fun v r t => (t.setFlag .c (v.getLsbD 0)).setNZ r) s

/-- 0x66: ROR zero-page. -/
def execRorZp (nn : Byte) (s : State) : StepOutcome := rorOp 5 (.memory (.zeroPage nn)) s

/-- 0x6A: ROR accumulator. -/
def execRorAcc (s : State) : StepOutcome := rorOp 2 .accumulator s

/-- 0x6E: ROR absolute. -/
def execRorAbs (addr : Word) (s : State) : StepOutcome := rorOp 6 (.memory (.absolute addr)) s

/-- 0x76: ROR zero-page,X. -/
def execRorZpX (nn : Byte) (s : State) : StepOutcome := rorOp 6 (.memory (.zeroPageX nn)) s

/-- 0x7E: ROR absolute,X. -/
def execRorAbsX (addr : Word) (s : State) : StepOutcome := rorOp 7 (.memory (.absoluteX addr)) s

end Sys2Proof.Machine
end

