-- ==== Sys2Proof/Machine/Control.lean ====
section
/-! DEFINITION. Branches, jumps, calls, the software break and its return (43_control_stack_flags.md R136 to R150). -/

namespace Sys2Proof.Machine

/-- `Branch(cond)` (R97, R136): `PC` holds the address after the branch's two bytes; the page of the target
is compared with the page of that address. -/
def branch (base : Nat) (cond : Bool) (dd : Byte) (s : State) : StepOutcome :=
  let target := s.pc + sext16 dd
  .next (if cond then ({ s with pc := target }).charge (base + 1 + (hi8 target != hi8 s.pc).toNat)
    else s.charge base)

/-- BCC (R137): `Branch(P.C = 0)`. -/
def bccOp (base : Nat) (dd : Byte) (s : State) : StepOutcome := branch base (!s.flag .c) dd s

/-- 0x90: BCC relative. -/
def execBcc (dd : Byte) (s : State) : StepOutcome := bccOp 2 dd s

/-- BCS (R138): `Branch(P.C = 1)`. -/
def bcsOp (base : Nat) (dd : Byte) (s : State) : StepOutcome := branch base (s.flag .c) dd s

/-- 0xB0: BCS relative. -/
def execBcs (dd : Byte) (s : State) : StepOutcome := bcsOp 2 dd s

/-- BEQ (R139): `Branch(P.Z = 1)`. -/
def beqOp (base : Nat) (dd : Byte) (s : State) : StepOutcome := branch base (s.flag .z) dd s

/-- 0xF0: BEQ relative. -/
def execBeq (dd : Byte) (s : State) : StepOutcome := beqOp 2 dd s

/-- BMI (R140): `Branch(P.N = 1)`. -/
def bmiOp (base : Nat) (dd : Byte) (s : State) : StepOutcome := branch base (s.flag .n) dd s

/-- 0x30: BMI relative. -/
def execBmi (dd : Byte) (s : State) : StepOutcome := bmiOp 2 dd s

/-- BNE (R141): `Branch(P.Z = 0)`. -/
def bneOp (base : Nat) (dd : Byte) (s : State) : StepOutcome := branch base (!s.flag .z) dd s

/-- 0xD0: BNE relative. -/
def execBne (dd : Byte) (s : State) : StepOutcome := bneOp 2 dd s

/-- BPL (R142): `Branch(P.N = 0)`. -/
def bplOp (base : Nat) (dd : Byte) (s : State) : StepOutcome := branch base (!s.flag .n) dd s

/-- 0x10: BPL relative. -/
def execBpl (dd : Byte) (s : State) : StepOutcome := bplOp 2 dd s

/-- BVC (R143): `Branch(P.V = 0)`. -/
def bvcOp (base : Nat) (dd : Byte) (s : State) : StepOutcome := branch base (!s.flag .v) dd s

/-- 0x50: BVC relative. -/
def execBvc (dd : Byte) (s : State) : StepOutcome := bvcOp 2 dd s

/-- BVS (R144): `Branch(P.V = 1)`. -/
def bvsOp (base : Nat) (dd : Byte) (s : State) : StepOutcome := branch base (s.flag .v) dd s

/-- 0x70: BVS relative. -/
def execBvs (dd : Byte) (s : State) : StepOutcome := bvsOp 2 dd s

/-- The indirect mode's `EA` (R98): a pointer `0xhhFF` takes its high byte from `0xhh00`; any other pointer
is read with `read16`. -/
def State.indirectTarget (s : State) (ptr : Word) : Word × State :=
  if lo8 ptr = 0xFF#8 then
    let lo := s.read8 ptr
    let hi := lo.2.read8 (word (hi8 ptr) 0x00#8)
    (word hi.1 lo.1, hi.2)
  else s.read16 ptr

/-- JMP absolute (R145): `PC <- hh:ll`. -/
def jmpAbsOp (base : Nat) (addr : Word) (s : State) : StepOutcome := .next (({ s with pc := addr }).charge base)

/-- JMP indirect (R146): `PC <- EA`. -/
def jmpIndOp (base : Nat) (ptr : Word) (s : State) : StepOutcome :=
  let target := s.indirectTarget ptr
  .next (({ target.2 with pc := target.1 }).charge base)

/-- 0x4C: JMP absolute. -/
def execJmpAbs (addr : Word) (s : State) : StepOutcome := jmpAbsOp 3 addr s

/-- 0x6C: JMP indirect. -/
def execJmpInd (ptr : Word) (s : State) : StepOutcome := jmpIndOp 5 ptr s

/-- JSR (R147): push "(return_address − 1), high byte then low byte"; `PC` is already the address of JSR + 3. -/
def jsrOp (base : Nat) (addr : Word) (s : State) : StepOutcome :=
  .next (({ s.pushWord .highFirst (s.pc - 1) with pc := addr }).charge base)

/-- 0x20: JSR absolute. -/
def execJsr (addr : Word) (s : State) : StepOutcome := jsrOp 6 addr s

/-- RTS (R148): "return pops low then high, adds 1." -/
def rtsOp (base : Nat) (s : State) : StepOutcome :=
  let target := s.pullWord
  .next (({ target.2 with pc := target.1 + 1 }).charge base)

/-- 0x60: RTS implied. -/
def execRts (s : State) : StepOutcome := rtsOp 6 s

/-- BRK (R149, R180): take the software trap through 0xFFFE. `opPC` is `PC - 1`, since the one byte of BRK
has been fetched. -/
def brkOp (base : Nat) (s : State) : StepOutcome :=
  let ret := s.pc - 1 + BitVec.ofNat 16 s.config.brkReturnOffset
  .next ((s.takeException ret s.config.brkPushOrder (pushedBySoftware s.p) 0xFFFE#16).charge base)

/-- 0x00: BRK implied. -/
def execBrk (s : State) : StepOutcome := brkOp 7 s

/-- RTI (R150, R181). -/
def rtiOp (base : Nat) (s : State) : StepOutcome := .next (s.returnFromException.charge base)

/-- 0x40: RTI implied. -/
def execRti (s : State) : StepOutcome := rtiOp 6 s

end Sys2Proof.Machine
end

