-- ==== Sys2Proof/Machine/LoadStore.lean ====
section
/-! DEFINITION. Loads, stores and register transfers (41_load_store_transfer.md R100 to R111): for each instruction
its meaning over an operand, then one definition for each row with that row's mode and base count (R204). -/

namespace Sys2Proof.Machine

/-- LDA (R100): `SetA(Operand())`. -/
def ldaOp (base : Nat) (o : Operand) (s : State) : StepOutcome :=
  readInstr base o (fun m t => t.setA m) s

/-- 0xA1: LDA (zero-page,X). -/
def execLdaIndX (nn : Byte) (s : State) : StepOutcome := ldaOp 6 (.memory (.indexedIndirect nn)) s

/-- 0xA5: LDA zero-page. -/
def execLdaZp (nn : Byte) (s : State) : StepOutcome := ldaOp 3 (.memory (.zeroPage nn)) s

/-- 0xA9: LDA immediate. -/
def execLdaImm (nn : Byte) (s : State) : StepOutcome := ldaOp 2 (.immediate nn) s

/-- 0xAD: LDA absolute. -/
def execLdaAbs (addr : Word) (s : State) : StepOutcome := ldaOp 4 (.memory (.absolute addr)) s

/-- 0xB1: LDA (zero-page),Y. -/
def execLdaIndY (nn : Byte) (s : State) : StepOutcome := ldaOp 5 (.memory (.indirectIndexed nn)) s

/-- 0xB5: LDA zero-page,X. -/
def execLdaZpX (nn : Byte) (s : State) : StepOutcome := ldaOp 4 (.memory (.zeroPageX nn)) s

/-- 0xB9: LDA absolute,Y. -/
def execLdaAbsY (addr : Word) (s : State) : StepOutcome := ldaOp 4 (.memory (.absoluteY addr)) s

/-- 0xBD: LDA absolute,X. -/
def execLdaAbsX (addr : Word) (s : State) : StepOutcome := ldaOp 4 (.memory (.absoluteX addr)) s

/-- LDX (R101): `SetX(Operand())`. -/
def ldxOp (base : Nat) (o : Operand) (s : State) : StepOutcome :=
  readInstr base o (fun m t => t.setX m) s

/-- 0xA2: LDX immediate. -/
def execLdxImm (nn : Byte) (s : State) : StepOutcome := ldxOp 2 (.immediate nn) s

/-- 0xA6: LDX zero-page. -/
def execLdxZp (nn : Byte) (s : State) : StepOutcome := ldxOp 3 (.memory (.zeroPage nn)) s

/-- 0xAE: LDX absolute. -/
def execLdxAbs (addr : Word) (s : State) : StepOutcome := ldxOp 4 (.memory (.absolute addr)) s

/-- 0xB6: LDX zero-page,Y. -/
def execLdxZpY (nn : Byte) (s : State) : StepOutcome := ldxOp 4 (.memory (.zeroPageY nn)) s

/-- 0xBE: LDX absolute,Y. -/
def execLdxAbsY (addr : Word) (s : State) : StepOutcome := ldxOp 4 (.memory (.absoluteY addr)) s

/-- LDY (R102): `SetY(Operand())`. -/
def ldyOp (base : Nat) (o : Operand) (s : State) : StepOutcome :=
  readInstr base o (fun m t => t.setY m) s

/-- 0xA0: LDY immediate. -/
def execLdyImm (nn : Byte) (s : State) : StepOutcome := ldyOp 2 (.immediate nn) s

/-- 0xA4: LDY zero-page. -/
def execLdyZp (nn : Byte) (s : State) : StepOutcome := ldyOp 3 (.memory (.zeroPage nn)) s

/-- 0xAC: LDY absolute. -/
def execLdyAbs (addr : Word) (s : State) : StepOutcome := ldyOp 4 (.memory (.absolute addr)) s

/-- 0xB4: LDY zero-page,X. -/
def execLdyZpX (nn : Byte) (s : State) : StepOutcome := ldyOp 4 (.memory (.zeroPageX nn)) s

/-- 0xBC: LDY absolute,X. -/
def execLdyAbsX (addr : Word) (s : State) : StepOutcome := ldyOp 4 (.memory (.absoluteX addr)) s

/-- STA (R103): `MemWrite(EA, 1, A)`. -/
def staOp (base : Nat) (m : AddrMode) (s : State) : StepOutcome := storeInstr base m s.a s

/-- STA, indexed (R103): a fixed count, or with `STORE_PAGE_PENALTY` the other base and class `read` (R203). -/
def staIndexedOp (base penaltyBase : Nat) (m : AddrMode) (s : State) : StepOutcome :=
  staOp (if s.config.storePagePenalty then penaltyBase + s.pagePenalty m else base) m s

/-- 0x81: STA (zero-page,X). -/
def execStaIndX (nn : Byte) (s : State) : StepOutcome := staOp 6 (.indexedIndirect nn) s

/-- 0x85: STA zero-page. -/
def execStaZp (nn : Byte) (s : State) : StepOutcome := staOp 3 (.zeroPage nn) s

/-- 0x8D: STA absolute. -/
def execStaAbs (addr : Word) (s : State) : StepOutcome := staOp 4 (.absolute addr) s

/-- 0x91: STA (zero-page),Y. -/
def execStaIndY (nn : Byte) (s : State) : StepOutcome := staIndexedOp 6 5 (.indirectIndexed nn) s

/-- 0x95: STA zero-page,X. -/
def execStaZpX (nn : Byte) (s : State) : StepOutcome := staOp 4 (.zeroPageX nn) s

/-- 0x99: STA absolute,Y. -/
def execStaAbsY (addr : Word) (s : State) : StepOutcome := staIndexedOp 5 4 (.absoluteY addr) s

/-- 0x9D: STA absolute,X. -/
def execStaAbsX (addr : Word) (s : State) : StepOutcome := staIndexedOp 5 4 (.absoluteX addr) s

/-- STX (R104): `MemWrite(EA, 1, X)`. -/
def stxOp (base : Nat) (m : AddrMode) (s : State) : StepOutcome := storeInstr base m s.x s

/-- 0x86: STX zero-page. -/
def execStxZp (nn : Byte) (s : State) : StepOutcome := stxOp 3 (.zeroPage nn) s

/-- 0x8E: STX absolute. -/
def execStxAbs (addr : Word) (s : State) : StepOutcome := stxOp 4 (.absolute addr) s

/-- 0x96: STX zero-page,Y. -/
def execStxZpY (nn : Byte) (s : State) : StepOutcome := stxOp 4 (.zeroPageY nn) s

/-- STY (R105): `MemWrite(EA, 1, Y)`. -/
def styOp (base : Nat) (m : AddrMode) (s : State) : StepOutcome := storeInstr base m s.y s

/-- 0x84: STY zero-page. -/
def execStyZp (nn : Byte) (s : State) : StepOutcome := styOp 3 (.zeroPage nn) s

/-- 0x8C: STY absolute. -/
def execStyAbs (addr : Word) (s : State) : StepOutcome := styOp 4 (.absolute addr) s

/-- 0x94: STY zero-page,X. -/
def execStyZpX (nn : Byte) (s : State) : StepOutcome := styOp 4 (.zeroPageX nn) s

/-- TAX (R106): `SetX(A)`. -/
def taxOp (base : Nat) (s : State) : StepOutcome := .next ((s.setX s.a).charge base)

/-- 0xAA: TAX implied. -/
def execTax (s : State) : StepOutcome := taxOp 2 s

/-- TAY (R107): `SetY(A)`. -/
def tayOp (base : Nat) (s : State) : StepOutcome := .next ((s.setY s.a).charge base)

/-- 0xA8: TAY implied. -/
def execTay (s : State) : StepOutcome := tayOp 2 s

/-- TSX (R108): `SetX(SP[7:0])`. -/
def tsxOp (base : Nat) (s : State) : StepOutcome := .next ((s.setX (lo8 s.sp)).charge base)

/-- 0xBA: TSX implied. -/
def execTsx (s : State) : StepOutcome := tsxOp 2 s

/-- TXA (R109): `SetA(X)`. -/
def txaOp (base : Nat) (s : State) : StepOutcome := .next ((s.setA s.x).charge base)

/-- 0x8A: TXA implied. -/
def execTxa (s : State) : StepOutcome := txaOp 2 s

/-- TXS (R110): `SP <- 0x0100 | X`; no flag is written. -/
def txsOp (base : Nat) (s : State) : StepOutcome := .next ((s.setSp s.x).charge base)

/-- 0x9A: TXS implied. -/
def execTxs (s : State) : StepOutcome := txsOp 2 s

/-- TYA (R111): `SetA(Y)`. -/
def tyaOp (base : Nat) (s : State) : StepOutcome := .next ((s.setA s.y).charge base)

/-- 0x98: TYA implied. -/
def execTya (s : State) : StepOutcome := tyaOp 2 s

end Sys2Proof.Machine
end

