-- ==== Sys2Proof/Machine/StackFlags.lean ====
section
/-! DEFINITION. Stack and flag instructions and NOP (43_control_stack_flags.md R151 to R162). -/

namespace Sys2Proof.Machine

/-- PHA (R151): `Push(A)`. -/
def phaOp (base : Nat) (s : State) : StepOutcome := .next ((s.push s.a).charge base)

/-- 0x48: PHA implied. -/
def execPha (s : State) : StepOutcome := phaOp 3 s

/-- PHP (R152): `Push(P | 0x30)`. -/
def phpOp (base : Nat) (s : State) : StepOutcome := .next ((s.push (pushedBySoftware s.p)).charge base)

/-- 0x08: PHP implied. -/
def execPhp (s : State) : StepOutcome := phpOp 3 s

/-- PLA (R153): `SetA(Pull())`. -/
def plaOp (base : Nat) (s : State) : StepOutcome :=
  let v := s.pull
  .next ((v.2.setA v.1).charge base)

/-- 0x68: PLA implied. -/
def execPla (s : State) : StepOutcome := plaOp 4 s

/-- PLP (R154): `P <- (Pull() & 0xCF) | 0x20`. -/
def plpOp (base : Nat) (s : State) : StepOutcome :=
  let v := s.pull
  .next ((v.2.setP v.1).charge base)

/-- 0x28: PLP implied. -/
def execPlp (s : State) : StepOutcome := plpOp 4 s

/-- CLC (R155): `P.C <- 0`. -/
def clcOp (base : Nat) (s : State) : StepOutcome := .next ((s.setFlag .c false).charge base)

/-- 0x18: CLC implied. -/
def execClc (s : State) : StepOutcome := clcOp 2 s

/-- CLD (R156): `P.D <- 0`. -/
def cldOp (base : Nat) (s : State) : StepOutcome := .next ((s.setFlag .d false).charge base)

/-- 0xD8: CLD implied. -/
def execCld (s : State) : StepOutcome := cldOp 2 s

/-- CLI (R157): `P.I <- 0`. -/
def cliOp (base : Nat) (s : State) : StepOutcome := .next ((s.setFlag .i false).charge base)

/-- 0x58: CLI implied. -/
def execCli (s : State) : StepOutcome := cliOp 2 s

/-- CLV (R158): `P.V <- 0`. -/
def clvOp (base : Nat) (s : State) : StepOutcome := .next ((s.setFlag .v false).charge base)

/-- 0xB8: CLV implied. -/
def execClv (s : State) : StepOutcome := clvOp 2 s

/-- SEC (R159): `P.C <- 1`. -/
def secOp (base : Nat) (s : State) : StepOutcome := .next ((s.setFlag .c true).charge base)

/-- 0x38: SEC implied. -/
def execSec (s : State) : StepOutcome := secOp 2 s

/-- SED (R160): `P.D <- 1`. -/
def sedOp (base : Nat) (s : State) : StepOutcome := .next ((s.setFlag .d true).charge base)

/-- 0xF8: SED implied. -/
def execSed (s : State) : StepOutcome := sedOp 2 s

/-- SEI (R161): `P.I <- 1`. -/
def seiOp (base : Nat) (s : State) : StepOutcome := .next ((s.setFlag .i true).charge base)

/-- 0x78: SEI implied. -/
def execSei (s : State) : StepOutcome := seiOp 2 s

/-- NOP (R162): nothing. -/
def nopOp (base : Nat) (s : State) : StepOutcome := .next (s.charge base)

/-- 0xEA: NOP implied. -/
def execNop (s : State) : StepOutcome := nopOp 2 s

end Sys2Proof.Machine
end

