-- ==== Sys2Proof/Machine/Undocumented.lean ====
section
/-! DEFINITION. The undocumented opcodes (44_undocumented.md R164 to R174) and the unmapped bytes (R176). -/

namespace Sys2Proof.Machine

/-- NOP* with an operand (R165): "resolve the mode (fetching its operand bytes); do nothing else"; the byte
at `EA` is not read; absolute,X is of class `read` (R203). -/
def nopOperandOp (base : Nat) (o : Operand) (s : State) : StepOutcome :=
  .next (s.charge (base + s.operandPenalty o))

/-- 0x04: NOP* zero-page. -/
def execNop04 (nn : Byte) (s : State) : StepOutcome := nopOperandOp 3 (.memory (.zeroPage nn)) s

/-- 0x0C: NOP* absolute. -/
def execNop0C (addr : Word) (s : State) : StepOutcome := nopOperandOp 4 (.memory (.absolute addr)) s

/-- 0x14: NOP* zero-page,X. -/
def execNop14 (nn : Byte) (s : State) : StepOutcome := nopOperandOp 4 (.memory (.zeroPageX nn)) s

/-- 0x1A: NOP* implied. -/
def execNop1A (s : State) : StepOutcome := nopOp 2 s

/-- 0x1C: NOP* absolute,X. -/
def execNop1C (addr : Word) (s : State) : StepOutcome := nopOperandOp 4 (.memory (.absoluteX addr)) s

/-- 0x34: NOP* zero-page,X. -/
def execNop34 (nn : Byte) (s : State) : StepOutcome := nopOperandOp 4 (.memory (.zeroPageX nn)) s

/-- 0x3A: NOP* implied. -/
def execNop3A (s : State) : StepOutcome := nopOp 2 s

/-- 0x3C: NOP* absolute,X. -/
def execNop3C (addr : Word) (s : State) : StepOutcome := nopOperandOp 4 (.memory (.absoluteX addr)) s

/-- 0x44: NOP* zero-page. -/
def execNop44 (nn : Byte) (s : State) : StepOutcome := nopOperandOp 3 (.memory (.zeroPage nn)) s

/-- 0x54: NOP* zero-page,X. -/
def execNop54 (nn : Byte) (s : State) : StepOutcome := nopOperandOp 4 (.memory (.zeroPageX nn)) s

/-- 0x5A: NOP* implied. -/
def execNop5A (s : State) : StepOutcome := nopOp 2 s

/-- 0x5C: NOP* absolute,X. -/
def execNop5C (addr : Word) (s : State) : StepOutcome := nopOperandOp 4 (.memory (.absoluteX addr)) s

/-- 0x64: NOP* zero-page. -/
def execNop64 (nn : Byte) (s : State) : StepOutcome := nopOperandOp 3 (.memory (.zeroPage nn)) s

/-- 0x74: NOP* zero-page,X. -/
def execNop74 (nn : Byte) (s : State) : StepOutcome := nopOperandOp 4 (.memory (.zeroPageX nn)) s

/-- 0x7A: NOP* implied. -/
def execNop7A (s : State) : StepOutcome := nopOp 2 s

/-- 0x7C: NOP* absolute,X. -/
def execNop7C (addr : Word) (s : State) : StepOutcome := nopOperandOp 4 (.memory (.absoluteX addr)) s

/-- 0x80: NOP* immediate. -/
def execNop80 (nn : Byte) (s : State) : StepOutcome := nopOperandOp 2 (.immediate nn) s

/-- 0x82: NOP* immediate. -/
def execNop82 (nn : Byte) (s : State) : StepOutcome := nopOperandOp 2 (.immediate nn) s

/-- 0x89: NOP* immediate. -/
def execNop89 (nn : Byte) (s : State) : StepOutcome := nopOperandOp 2 (.immediate nn) s

/-- 0xC2: NOP* immediate. -/
def execNopC2 (nn : Byte) (s : State) : StepOutcome := nopOperandOp 2 (.immediate nn) s

/-- 0xD4: NOP* zero-page,X. -/
def execNopD4 (nn : Byte) (s : State) : StepOutcome := nopOperandOp 4 (.memory (.zeroPageX nn)) s

/-- 0xDA: NOP* implied. -/
def execNopDA (s : State) : StepOutcome := nopOp 2 s

/-- 0xDC: NOP* absolute,X. -/
def execNopDC (addr : Word) (s : State) : StepOutcome := nopOperandOp 4 (.memory (.absoluteX addr)) s

/-- 0xE2: NOP* immediate. -/
def execNopE2 (nn : Byte) (s : State) : StepOutcome := nopOperandOp 2 (.immediate nn) s

/-- 0xF4: NOP* zero-page,X. -/
def execNopF4 (nn : Byte) (s : State) : StepOutcome := nopOperandOp 4 (.memory (.zeroPageX nn)) s

/-- 0xFA: NOP* implied. -/
def execNopFA (s : State) : StepOutcome := nopOp 2 s

/-- 0xFC: NOP* absolute,X. -/
def execNopFC (addr : Word) (s : State) : StepOutcome := nopOperandOp 4 (.memory (.absoluteX addr)) s

/-- LAX (R166): `v <- Operand(); SetA(v); SetX(v)`. -/
def laxOp (base : Nat) (o : Operand) (s : State) : StepOutcome :=
  readInstr base o (fun m t => (t.setA m).setX m) s

/-- 0xA3: LAX* (zero-page,X). -/
def execLaxIndX (nn : Byte) (s : State) : StepOutcome := laxOp 6 (.memory (.indexedIndirect nn)) s

/-- 0xA7: LAX* zero-page. -/
def execLaxZp (nn : Byte) (s : State) : StepOutcome := laxOp 3 (.memory (.zeroPage nn)) s

/-- 0xAF: LAX* absolute. -/
def execLaxAbs (addr : Word) (s : State) : StepOutcome := laxOp 4 (.memory (.absolute addr)) s

/-- 0xB3: LAX* (zero-page),Y. -/
def execLaxIndY (nn : Byte) (s : State) : StepOutcome := laxOp 5 (.memory (.indirectIndexed nn)) s

/-- 0xB7: LAX* zero-page,Y. -/
def execLaxZpY (nn : Byte) (s : State) : StepOutcome := laxOp 4 (.memory (.zeroPageY nn)) s

/-- 0xBF: LAX* absolute,Y. -/
def execLaxAbsY (addr : Word) (s : State) : StepOutcome := laxOp 4 (.memory (.absoluteY addr)) s

/-- SAX (R167): `MemWrite(EA, 1, A & X)`. -/
def saxOp (base : Nat) (m : AddrMode) (s : State) : StepOutcome := storeInstr base m (s.a &&& s.x) s

/-- 0x83: SAX* (zero-page,X). -/
def execSaxIndX (nn : Byte) (s : State) : StepOutcome := saxOp 6 (.indexedIndirect nn) s

/-- 0x87: SAX* zero-page. -/
def execSaxZp (nn : Byte) (s : State) : StepOutcome := saxOp 3 (.zeroPage nn) s

/-- 0x8F: SAX* absolute. -/
def execSaxAbs (addr : Word) (s : State) : StepOutcome := saxOp 4 (.absolute addr) s

/-- 0x97: SAX* zero-page,Y. -/
def execSaxZpY (nn : Byte) (s : State) : StepOutcome := saxOp 4 (.zeroPageY nn) s

/-- 0xEB: SBC* immediate. -/
def execSbcEB (nn : Byte) (s : State) : StepOutcome := sbcOp 2 (.immediate nn) s

/-- DCP (R169): `r <- lo8(Operand() - 1); WriteBack(r); Compare(A, r)`. -/
def dcpOp (base : Nat) (o : Operand) (s : State) : StepOutcome :=
  modifyInstr base o (fun v _ => v - 1) (fun _ r t => t.compare t.a r) s

/-- 0xC3: DCP* (zero-page,X). -/
def execDcpIndX (nn : Byte) (s : State) : StepOutcome := dcpOp 8 (.memory (.indexedIndirect nn)) s

/-- 0xC7: DCP* zero-page. -/
def execDcpZp (nn : Byte) (s : State) : StepOutcome := dcpOp 5 (.memory (.zeroPage nn)) s

/-- 0xCF: DCP* absolute. -/
def execDcpAbs (addr : Word) (s : State) : StepOutcome := dcpOp 6 (.memory (.absolute addr)) s

/-- 0xD3: DCP* (zero-page),Y. -/
def execDcpIndY (nn : Byte) (s : State) : StepOutcome := dcpOp 8 (.memory (.indirectIndexed nn)) s

/-- 0xD7: DCP* zero-page,X. -/
def execDcpZpX (nn : Byte) (s : State) : StepOutcome := dcpOp 6 (.memory (.zeroPageX nn)) s

/-- 0xDB: DCP* absolute,Y. -/
def execDcpAbsY (addr : Word) (s : State) : StepOutcome := dcpOp 7 (.memory (.absoluteY addr)) s

/-- 0xDF: DCP* absolute,X. -/
def execDcpAbsX (addr : Word) (s : State) : StepOutcome := dcpOp 7 (.memory (.absoluteX addr)) s

/-- ISB (R170): `r <- lo8(Operand() + 1); WriteBack(r);` then SBC of `r`. -/
def isbOp (base : Nat) (o : Operand) (s : State) : StepOutcome :=
  modifyInstr base o (fun v _ => v + 1) (fun _ r t => t.addToA (~~~r)) s

/-- 0xE3: ISB* (zero-page,X). -/
def execIsbIndX (nn : Byte) (s : State) : StepOutcome := isbOp 8 (.memory (.indexedIndirect nn)) s

/-- 0xE7: ISB* zero-page. -/
def execIsbZp (nn : Byte) (s : State) : StepOutcome := isbOp 5 (.memory (.zeroPage nn)) s

/-- 0xEF: ISB* absolute. -/
def execIsbAbs (addr : Word) (s : State) : StepOutcome := isbOp 6 (.memory (.absolute addr)) s

/-- 0xF3: ISB* (zero-page),Y. -/
def execIsbIndY (nn : Byte) (s : State) : StepOutcome := isbOp 8 (.memory (.indirectIndexed nn)) s

/-- 0xF7: ISB* zero-page,X. -/
def execIsbZpX (nn : Byte) (s : State) : StepOutcome := isbOp 6 (.memory (.zeroPageX nn)) s

/-- 0xFB: ISB* absolute,Y. -/
def execIsbAbsY (addr : Word) (s : State) : StepOutcome := isbOp 7 (.memory (.absoluteY addr)) s

/-- 0xFF: ISB* absolute,X. -/
def execIsbAbsX (addr : Word) (s : State) : StepOutcome := isbOp 7 (.memory (.absoluteX addr)) s

/-- SLO (R171): `P.C <- v[7]; r <- lo8(v << 1); WriteBack(r); SetA(A | r)`. -/
def sloOp (base : Nat) (o : Operand) (s : State) : StepOutcome :=
  modifyInstr base o (fun v _ => shiftLeft v) (fun v r t => (t.setFlag .c v.msb).setA (t.a ||| r)) s

/-- 0x03: SLO* (zero-page,X). -/
def execSloIndX (nn : Byte) (s : State) : StepOutcome := sloOp 8 (.memory (.indexedIndirect nn)) s

/-- 0x07: SLO* zero-page. -/
def execSloZp (nn : Byte) (s : State) : StepOutcome := sloOp 5 (.memory (.zeroPage nn)) s

/-- 0x0F: SLO* absolute. -/
def execSloAbs (addr : Word) (s : State) : StepOutcome := sloOp 6 (.memory (.absolute addr)) s

/-- 0x13: SLO* (zero-page),Y. -/
def execSloIndY (nn : Byte) (s : State) : StepOutcome := sloOp 8 (.memory (.indirectIndexed nn)) s

/-- 0x17: SLO* zero-page,X. -/
def execSloZpX (nn : Byte) (s : State) : StepOutcome := sloOp 6 (.memory (.zeroPageX nn)) s

/-- 0x1B: SLO* absolute,Y. -/
def execSloAbsY (addr : Word) (s : State) : StepOutcome := sloOp 7 (.memory (.absoluteY addr)) s

/-- 0x1F: SLO* absolute,X. -/
def execSloAbsX (addr : Word) (s : State) : StepOutcome := sloOp 7 (.memory (.absoluteX addr)) s

/-- RLA (R172): `r <- lo8((v << 1) | P.C); P.C <- v[7]; WriteBack(r); SetA(A & r)`. -/
def rlaOp (base : Nat) (o : Operand) (s : State) : StepOutcome :=
  modifyInstr base o (fun v t => rotateLeft v (t.flag .c)) (fun v r t => (t.setFlag .c v.msb).setA (t.a &&& r)) s

/-- 0x23: RLA* (zero-page,X). -/
def execRlaIndX (nn : Byte) (s : State) : StepOutcome := rlaOp 8 (.memory (.indexedIndirect nn)) s

/-- 0x27: RLA* zero-page. -/
def execRlaZp (nn : Byte) (s : State) : StepOutcome := rlaOp 5 (.memory (.zeroPage nn)) s

/-- 0x2F: RLA* absolute. -/
def execRlaAbs (addr : Word) (s : State) : StepOutcome := rlaOp 6 (.memory (.absolute addr)) s

/-- 0x33: RLA* (zero-page),Y. -/
def execRlaIndY (nn : Byte) (s : State) : StepOutcome := rlaOp 8 (.memory (.indirectIndexed nn)) s

/-- 0x37: RLA* zero-page,X. -/
def execRlaZpX (nn : Byte) (s : State) : StepOutcome := rlaOp 6 (.memory (.zeroPageX nn)) s

/-- 0x3B: RLA* absolute,Y. -/
def execRlaAbsY (addr : Word) (s : State) : StepOutcome := rlaOp 7 (.memory (.absoluteY addr)) s

/-- 0x3F: RLA* absolute,X. -/
def execRlaAbsX (addr : Word) (s : State) : StepOutcome := rlaOp 7 (.memory (.absoluteX addr)) s

/-- SRE (R173): `P.C <- v[0]; r <- v >> 1; WriteBack(r); SetA(A ^ r)`. -/
def sreOp (base : Nat) (o : Operand) (s : State) : StepOutcome :=
  modifyInstr base o (fun v _ => shiftRight v) (fun v r t => (t.setFlag .c (v.getLsbD 0)).setA (t.a ^^^ r)) s

/-- 0x43: SRE* (zero-page,X). -/
def execSreIndX (nn : Byte) (s : State) : StepOutcome := sreOp 8 (.memory (.indexedIndirect nn)) s

/-- 0x47: SRE* zero-page. -/
def execSreZp (nn : Byte) (s : State) : StepOutcome := sreOp 5 (.memory (.zeroPage nn)) s

/-- 0x4F: SRE* absolute. -/
def execSreAbs (addr : Word) (s : State) : StepOutcome := sreOp 6 (.memory (.absolute addr)) s

/-- 0x53: SRE* (zero-page),Y. -/
def execSreIndY (nn : Byte) (s : State) : StepOutcome := sreOp 8 (.memory (.indirectIndexed nn)) s

/-- 0x57: SRE* zero-page,X. -/
def execSreZpX (nn : Byte) (s : State) : StepOutcome := sreOp 6 (.memory (.zeroPageX nn)) s

/-- 0x5B: SRE* absolute,Y. -/
def execSreAbsY (addr : Word) (s : State) : StepOutcome := sreOp 7 (.memory (.absoluteY addr)) s

/-- 0x5F: SRE* absolute,X. -/
def execSreAbsX (addr : Word) (s : State) : StepOutcome := sreOp 7 (.memory (.absoluteX addr)) s

/-- RRA (R174): `r <- (v >> 1) | (P.C << 7); P.C <- v[0]; WriteBack(r);` then ADC of `r`. -/
def rraOp (base : Nat) (o : Operand) (s : State) : StepOutcome :=
  modifyInstr base o (fun v t => rotateRight v (t.flag .c)) (fun v r t => (t.setFlag .c (v.getLsbD 0)).addToA r) s

/-- 0x63: RRA* (zero-page,X). -/
def execRraIndX (nn : Byte) (s : State) : StepOutcome := rraOp 8 (.memory (.indexedIndirect nn)) s

/-- 0x67: RRA* zero-page. -/
def execRraZp (nn : Byte) (s : State) : StepOutcome := rraOp 5 (.memory (.zeroPage nn)) s

/-- 0x6F: RRA* absolute. -/
def execRraAbs (addr : Word) (s : State) : StepOutcome := rraOp 6 (.memory (.absolute addr)) s

/-- 0x73: RRA* (zero-page),Y. -/
def execRraIndY (nn : Byte) (s : State) : StepOutcome := rraOp 8 (.memory (.indirectIndexed nn)) s

/-- 0x77: RRA* zero-page,X. -/
def execRraZpX (nn : Byte) (s : State) : StepOutcome := rraOp 6 (.memory (.zeroPageX nn)) s

/-- 0x7B: RRA* absolute,Y. -/
def execRraAbsY (addr : Word) (s : State) : StepOutcome := rraOp 7 (.memory (.absoluteY addr)) s

/-- 0x7F: RRA* absolute,X. -/
def execRraAbsX (addr : Word) (s : State) : StepOutcome := rraOp 7 (.memory (.absoluteX addr)) s

/-- An unmapped opcode byte (R72, R176): the fatal fault. -/
def execUnmapped (opcode : Byte) (s : State) : StepOutcome := raiseFatal opcode s

end Sys2Proof.Machine
end

