-- ==== Sys2Proof/Syntax.lean ====
section
/-! DEFINITION. The instructions: one constructor for each mapped row of spec/opcode_table.json (231 opcode
bytes, 30_encoding.md R66 R71), named mnemonic and addressing mode, with the operand bytes the row has; and
`unmapped`, which carries its byte, for the 25 `(unmapped)` rows (R72). Two rows with one mnemonic and mode
(the undocumented NOP forms, SBC 0xEB) are told apart by the opcode byte in their name. -/

namespace Sys2Proof

/-- An instruction. `nn` is the one operand byte, `dd` a branch displacement, `addr` and `ptr` the operand
`hh:ll` (R68, R70). -/
inductive Instr where
  /-- 0xA1: LDA (zero-page,X) (R100). -/
  | ldaIndX (nn : Byte)
  /-- 0xA5: LDA zero-page (R100). -/
  | ldaZp (nn : Byte)
  /-- 0xA9: LDA immediate (R100). -/
  | ldaImm (nn : Byte)
  /-- 0xAD: LDA absolute (R100). -/
  | ldaAbs (addr : Word)
  /-- 0xB1: LDA (zero-page),Y (R100). -/
  | ldaIndY (nn : Byte)
  /-- 0xB5: LDA zero-page,X (R100). -/
  | ldaZpX (nn : Byte)
  /-- 0xB9: LDA absolute,Y (R100). -/
  | ldaAbsY (addr : Word)
  /-- 0xBD: LDA absolute,X (R100). -/
  | ldaAbsX (addr : Word)
  /-- 0xA2: LDX immediate (R101). -/
  | ldxImm (nn : Byte)
  /-- 0xA6: LDX zero-page (R101). -/
  | ldxZp (nn : Byte)
  /-- 0xAE: LDX absolute (R101). -/
  | ldxAbs (addr : Word)
  /-- 0xB6: LDX zero-page,Y (R101). -/
  | ldxZpY (nn : Byte)
  /-- 0xBE: LDX absolute,Y (R101). -/
  | ldxAbsY (addr : Word)
  /-- 0xA0: LDY immediate (R102). -/
  | ldyImm (nn : Byte)
  /-- 0xA4: LDY zero-page (R102). -/
  | ldyZp (nn : Byte)
  /-- 0xAC: LDY absolute (R102). -/
  | ldyAbs (addr : Word)
  /-- 0xB4: LDY zero-page,X (R102). -/
  | ldyZpX (nn : Byte)
  /-- 0xBC: LDY absolute,X (R102). -/
  | ldyAbsX (addr : Word)
  /-- 0x81: STA (zero-page,X) (R103). -/
  | staIndX (nn : Byte)
  /-- 0x85: STA zero-page (R103). -/
  | staZp (nn : Byte)
  /-- 0x8D: STA absolute (R103). -/
  | staAbs (addr : Word)
  /-- 0x91: STA (zero-page),Y (R103). -/
  | staIndY (nn : Byte)
  /-- 0x95: STA zero-page,X (R103). -/
  | staZpX (nn : Byte)
  /-- 0x99: STA absolute,Y (R103). -/
  | staAbsY (addr : Word)
  /-- 0x9D: STA absolute,X (R103). -/
  | staAbsX (addr : Word)
  /-- 0x86: STX zero-page (R104). -/
  | stxZp (nn : Byte)
  /-- 0x8E: STX absolute (R104). -/
  | stxAbs (addr : Word)
  /-- 0x96: STX zero-page,Y (R104). -/
  | stxZpY (nn : Byte)
  /-- 0x84: STY zero-page (R105). -/
  | styZp (nn : Byte)
  /-- 0x8C: STY absolute (R105). -/
  | styAbs (addr : Word)
  /-- 0x94: STY zero-page,X (R105). -/
  | styZpX (nn : Byte)
  /-- 0xAA: TAX implied (R106). -/
  | tax
  /-- 0xA8: TAY implied (R107). -/
  | tay
  /-- 0xBA: TSX implied (R108). -/
  | tsx
  /-- 0x8A: TXA implied (R109). -/
  | txa
  /-- 0x9A: TXS implied (R110). -/
  | txs
  /-- 0x98: TYA implied (R111). -/
  | tya
  /-- 0x61: ADC (zero-page,X) (R114). -/
  | adcIndX (nn : Byte)
  /-- 0x65: ADC zero-page (R114). -/
  | adcZp (nn : Byte)
  /-- 0x69: ADC immediate (R114). -/
  | adcImm (nn : Byte)
  /-- 0x6D: ADC absolute (R114). -/
  | adcAbs (addr : Word)
  /-- 0x71: ADC (zero-page),Y (R114). -/
  | adcIndY (nn : Byte)
  /-- 0x75: ADC zero-page,X (R114). -/
  | adcZpX (nn : Byte)
  /-- 0x79: ADC absolute,Y (R114). -/
  | adcAbsY (addr : Word)
  /-- 0x7D: ADC absolute,X (R114). -/
  | adcAbsX (addr : Word)
  /-- 0xE1: SBC (zero-page,X) (R115). -/
  | sbcIndX (nn : Byte)
  /-- 0xE5: SBC zero-page (R115). -/
  | sbcZp (nn : Byte)
  /-- 0xE9: SBC immediate (R115). -/
  | sbcImm (nn : Byte)
  /-- 0xED: SBC absolute (R115). -/
  | sbcAbs (addr : Word)
  /-- 0xF1: SBC (zero-page),Y (R115). -/
  | sbcIndY (nn : Byte)
  /-- 0xF5: SBC zero-page,X (R115). -/
  | sbcZpX (nn : Byte)
  /-- 0xF9: SBC absolute,Y (R115). -/
  | sbcAbsY (addr : Word)
  /-- 0xFD: SBC absolute,X (R115). -/
  | sbcAbsX (addr : Word)
  /-- 0x21: AND (zero-page,X) (R116). -/
  | andIndX (nn : Byte)
  /-- 0x25: AND zero-page (R116). -/
  | andZp (nn : Byte)
  /-- 0x29: AND immediate (R116). -/
  | andImm (nn : Byte)
  /-- 0x2D: AND absolute (R116). -/
  | andAbs (addr : Word)
  /-- 0x31: AND (zero-page),Y (R116). -/
  | andIndY (nn : Byte)
  /-- 0x35: AND zero-page,X (R116). -/
  | andZpX (nn : Byte)
  /-- 0x39: AND absolute,Y (R116). -/
  | andAbsY (addr : Word)
  /-- 0x3D: AND absolute,X (R116). -/
  | andAbsX (addr : Word)
  /-- 0x01: ORA (zero-page,X) (R117). -/
  | oraIndX (nn : Byte)
  /-- 0x05: ORA zero-page (R117). -/
  | oraZp (nn : Byte)
  /-- 0x09: ORA immediate (R117). -/
  | oraImm (nn : Byte)
  /-- 0x0D: ORA absolute (R117). -/
  | oraAbs (addr : Word)
  /-- 0x11: ORA (zero-page),Y (R117). -/
  | oraIndY (nn : Byte)
  /-- 0x15: ORA zero-page,X (R117). -/
  | oraZpX (nn : Byte)
  /-- 0x19: ORA absolute,Y (R117). -/
  | oraAbsY (addr : Word)
  /-- 0x1D: ORA absolute,X (R117). -/
  | oraAbsX (addr : Word)
  /-- 0x41: EOR (zero-page,X) (R118). -/
  | eorIndX (nn : Byte)
  /-- 0x45: EOR zero-page (R118). -/
  | eorZp (nn : Byte)
  /-- 0x49: EOR immediate (R118). -/
  | eorImm (nn : Byte)
  /-- 0x4D: EOR absolute (R118). -/
  | eorAbs (addr : Word)
  /-- 0x51: EOR (zero-page),Y (R118). -/
  | eorIndY (nn : Byte)
  /-- 0x55: EOR zero-page,X (R118). -/
  | eorZpX (nn : Byte)
  /-- 0x59: EOR absolute,Y (R118). -/
  | eorAbsY (addr : Word)
  /-- 0x5D: EOR absolute,X (R118). -/
  | eorAbsX (addr : Word)
  /-- 0x24: BIT zero-page (R119). -/
  | bitZp (nn : Byte)
  /-- 0x2C: BIT absolute (R119). -/
  | bitAbs (addr : Word)
  /-- 0xC1: CMP (zero-page,X) (R120). -/
  | cmpIndX (nn : Byte)
  /-- 0xC5: CMP zero-page (R120). -/
  | cmpZp (nn : Byte)
  /-- 0xC9: CMP immediate (R120). -/
  | cmpImm (nn : Byte)
  /-- 0xCD: CMP absolute (R120). -/
  | cmpAbs (addr : Word)
  /-- 0xD1: CMP (zero-page),Y (R120). -/
  | cmpIndY (nn : Byte)
  /-- 0xD5: CMP zero-page,X (R120). -/
  | cmpZpX (nn : Byte)
  /-- 0xD9: CMP absolute,Y (R120). -/
  | cmpAbsY (addr : Word)
  /-- 0xDD: CMP absolute,X (R120). -/
  | cmpAbsX (addr : Word)
  /-- 0xE0: CPX immediate (R121). -/
  | cpxImm (nn : Byte)
  /-- 0xE4: CPX zero-page (R121). -/
  | cpxZp (nn : Byte)
  /-- 0xEC: CPX absolute (R121). -/
  | cpxAbs (addr : Word)
  /-- 0xC0: CPY immediate (R122). -/
  | cpyImm (nn : Byte)
  /-- 0xC4: CPY zero-page (R122). -/
  | cpyZp (nn : Byte)
  /-- 0xCC: CPY absolute (R122). -/
  | cpyAbs (addr : Word)
  /-- 0xE6: INC zero-page (R123). -/
  | incZp (nn : Byte)
  /-- 0xEE: INC absolute (R123). -/
  | incAbs (addr : Word)
  /-- 0xF6: INC zero-page,X (R123). -/
  | incZpX (nn : Byte)
  /-- 0xFE: INC absolute,X (R123). -/
  | incAbsX (addr : Word)
  /-- 0xC6: DEC zero-page (R124). -/
  | decZp (nn : Byte)
  /-- 0xCE: DEC absolute (R124). -/
  | decAbs (addr : Word)
  /-- 0xD6: DEC zero-page,X (R124). -/
  | decZpX (nn : Byte)
  /-- 0xDE: DEC absolute,X (R124). -/
  | decAbsX (addr : Word)
  /-- 0xE8: INX implied (R125). -/
  | inx
  /-- 0xC8: INY implied (R126). -/
  | iny
  /-- 0xCA: DEX implied (R127). -/
  | dex
  /-- 0x88: DEY implied (R128). -/
  | dey
  /-- 0x06: ASL zero-page (R129). -/
  | aslZp (nn : Byte)
  /-- 0x0A: ASL accumulator (R129). -/
  | aslAcc
  /-- 0x0E: ASL absolute (R129). -/
  | aslAbs (addr : Word)
  /-- 0x16: ASL zero-page,X (R129). -/
  | aslZpX (nn : Byte)
  /-- 0x1E: ASL absolute,X (R129). -/
  | aslAbsX (addr : Word)
  /-- 0x46: LSR zero-page (R130). -/
  | lsrZp (nn : Byte)
  /-- 0x4A: LSR accumulator (R130). -/
  | lsrAcc
  /-- 0x4E: LSR absolute (R130). -/
  | lsrAbs (addr : Word)
  /-- 0x56: LSR zero-page,X (R130). -/
  | lsrZpX (nn : Byte)
  /-- 0x5E: LSR absolute,X (R130). -/
  | lsrAbsX (addr : Word)
  /-- 0x26: ROL zero-page (R131). -/
  | rolZp (nn : Byte)
  /-- 0x2A: ROL accumulator (R131). -/
  | rolAcc
  /-- 0x2E: ROL absolute (R131). -/
  | rolAbs (addr : Word)
  /-- 0x36: ROL zero-page,X (R131). -/
  | rolZpX (nn : Byte)
  /-- 0x3E: ROL absolute,X (R131). -/
  | rolAbsX (addr : Word)
  /-- 0x66: ROR zero-page (R132). -/
  | rorZp (nn : Byte)
  /-- 0x6A: ROR accumulator (R132). -/
  | rorAcc
  /-- 0x6E: ROR absolute (R132). -/
  | rorAbs (addr : Word)
  /-- 0x76: ROR zero-page,X (R132). -/
  | rorZpX (nn : Byte)
  /-- 0x7E: ROR absolute,X (R132). -/
  | rorAbsX (addr : Word)
  /-- 0x90: BCC relative (R137). -/
  | bcc (dd : Byte)
  /-- 0xB0: BCS relative (R138). -/
  | bcs (dd : Byte)
  /-- 0xF0: BEQ relative (R139). -/
  | beq (dd : Byte)
  /-- 0x30: BMI relative (R140). -/
  | bmi (dd : Byte)
  /-- 0xD0: BNE relative (R141). -/
  | bne (dd : Byte)
  /-- 0x10: BPL relative (R142). -/
  | bpl (dd : Byte)
  /-- 0x50: BVC relative (R143). -/
  | bvc (dd : Byte)
  /-- 0x70: BVS relative (R144). -/
  | bvs (dd : Byte)
  /-- 0x4C: JMP absolute (R145). -/
  | jmpAbs (addr : Word)
  /-- 0x6C: JMP indirect (R146). -/
  | jmpInd (ptr : Word)
  /-- 0x20: JSR absolute (R147). -/
  | jsr (addr : Word)
  /-- 0x60: RTS implied (R148). -/
  | rts
  /-- 0x00: BRK implied (R149). -/
  | brk
  /-- 0x40: RTI implied (R150). -/
  | rti
  /-- 0x48: PHA implied (R151). -/
  | pha
  /-- 0x08: PHP implied (R152). -/
  | php
  /-- 0x68: PLA implied (R153). -/
  | pla
  /-- 0x28: PLP implied (R154). -/
  | plp
  /-- 0x18: CLC implied (R155). -/
  | clc
  /-- 0xD8: CLD implied (R156). -/
  | cld
  /-- 0x58: CLI implied (R157). -/
  | cli
  /-- 0xB8: CLV implied (R158). -/
  | clv
  /-- 0x38: SEC implied (R159). -/
  | sec
  /-- 0xF8: SED implied (R160). -/
  | sed
  /-- 0x78: SEI implied (R161). -/
  | sei
  /-- 0xEA: NOP implied (R162). -/
  | nop
  /-- 0x04: NOP* zero-page (R165). -/
  | nop04 (nn : Byte)
  /-- 0x0C: NOP* absolute (R165). -/
  | nop0C (addr : Word)
  /-- 0x14: NOP* zero-page,X (R165). -/
  | nop14 (nn : Byte)
  /-- 0x1A: NOP* implied (R165). -/
  | nop1A
  /-- 0x1C: NOP* absolute,X (R165). -/
  | nop1C (addr : Word)
  /-- 0x34: NOP* zero-page,X (R165). -/
  | nop34 (nn : Byte)
  /-- 0x3A: NOP* implied (R165). -/
  | nop3A
  /-- 0x3C: NOP* absolute,X (R165). -/
  | nop3C (addr : Word)
  /-- 0x44: NOP* zero-page (R165). -/
  | nop44 (nn : Byte)
  /-- 0x54: NOP* zero-page,X (R165). -/
  | nop54 (nn : Byte)
  /-- 0x5A: NOP* implied (R165). -/
  | nop5A
  /-- 0x5C: NOP* absolute,X (R165). -/
  | nop5C (addr : Word)
  /-- 0x64: NOP* zero-page (R165). -/
  | nop64 (nn : Byte)
  /-- 0x74: NOP* zero-page,X (R165). -/
  | nop74 (nn : Byte)
  /-- 0x7A: NOP* implied (R165). -/
  | nop7A
  /-- 0x7C: NOP* absolute,X (R165). -/
  | nop7C (addr : Word)
  /-- 0x80: NOP* immediate (R165). -/
  | nop80 (nn : Byte)
  /-- 0x82: NOP* immediate (R165). -/
  | nop82 (nn : Byte)
  /-- 0x89: NOP* immediate (R165). -/
  | nop89 (nn : Byte)
  /-- 0xC2: NOP* immediate (R165). -/
  | nopC2 (nn : Byte)
  /-- 0xD4: NOP* zero-page,X (R165). -/
  | nopD4 (nn : Byte)
  /-- 0xDA: NOP* implied (R165). -/
  | nopDA
  /-- 0xDC: NOP* absolute,X (R165). -/
  | nopDC (addr : Word)
  /-- 0xE2: NOP* immediate (R165). -/
  | nopE2 (nn : Byte)
  /-- 0xF4: NOP* zero-page,X (R165). -/
  | nopF4 (nn : Byte)
  /-- 0xFA: NOP* implied (R165). -/
  | nopFA
  /-- 0xFC: NOP* absolute,X (R165). -/
  | nopFC (addr : Word)
  /-- 0xA3: LAX* (zero-page,X) (R166). -/
  | laxIndX (nn : Byte)
  /-- 0xA7: LAX* zero-page (R166). -/
  | laxZp (nn : Byte)
  /-- 0xAF: LAX* absolute (R166). -/
  | laxAbs (addr : Word)
  /-- 0xB3: LAX* (zero-page),Y (R166). -/
  | laxIndY (nn : Byte)
  /-- 0xB7: LAX* zero-page,Y (R166). -/
  | laxZpY (nn : Byte)
  /-- 0xBF: LAX* absolute,Y (R166). -/
  | laxAbsY (addr : Word)
  /-- 0x83: SAX* (zero-page,X) (R167). -/
  | saxIndX (nn : Byte)
  /-- 0x87: SAX* zero-page (R167). -/
  | saxZp (nn : Byte)
  /-- 0x8F: SAX* absolute (R167). -/
  | saxAbs (addr : Word)
  /-- 0x97: SAX* zero-page,Y (R167). -/
  | saxZpY (nn : Byte)
  /-- 0xEB: SBC* immediate (R168). -/
  | sbcEB (nn : Byte)
  /-- 0xC3: DCP* (zero-page,X) (R169). -/
  | dcpIndX (nn : Byte)
  /-- 0xC7: DCP* zero-page (R169). -/
  | dcpZp (nn : Byte)
  /-- 0xCF: DCP* absolute (R169). -/
  | dcpAbs (addr : Word)
  /-- 0xD3: DCP* (zero-page),Y (R169). -/
  | dcpIndY (nn : Byte)
  /-- 0xD7: DCP* zero-page,X (R169). -/
  | dcpZpX (nn : Byte)
  /-- 0xDB: DCP* absolute,Y (R169). -/
  | dcpAbsY (addr : Word)
  /-- 0xDF: DCP* absolute,X (R169). -/
  | dcpAbsX (addr : Word)
  /-- 0xE3: ISB* (zero-page,X) (R170). -/
  | isbIndX (nn : Byte)
  /-- 0xE7: ISB* zero-page (R170). -/
  | isbZp (nn : Byte)
  /-- 0xEF: ISB* absolute (R170). -/
  | isbAbs (addr : Word)
  /-- 0xF3: ISB* (zero-page),Y (R170). -/
  | isbIndY (nn : Byte)
  /-- 0xF7: ISB* zero-page,X (R170). -/
  | isbZpX (nn : Byte)
  /-- 0xFB: ISB* absolute,Y (R170). -/
  | isbAbsY (addr : Word)
  /-- 0xFF: ISB* absolute,X (R170). -/
  | isbAbsX (addr : Word)
  /-- 0x03: SLO* (zero-page,X) (R171). -/
  | sloIndX (nn : Byte)
  /-- 0x07: SLO* zero-page (R171). -/
  | sloZp (nn : Byte)
  /-- 0x0F: SLO* absolute (R171). -/
  | sloAbs (addr : Word)
  /-- 0x13: SLO* (zero-page),Y (R171). -/
  | sloIndY (nn : Byte)
  /-- 0x17: SLO* zero-page,X (R171). -/
  | sloZpX (nn : Byte)
  /-- 0x1B: SLO* absolute,Y (R171). -/
  | sloAbsY (addr : Word)
  /-- 0x1F: SLO* absolute,X (R171). -/
  | sloAbsX (addr : Word)
  /-- 0x23: RLA* (zero-page,X) (R172). -/
  | rlaIndX (nn : Byte)
  /-- 0x27: RLA* zero-page (R172). -/
  | rlaZp (nn : Byte)
  /-- 0x2F: RLA* absolute (R172). -/
  | rlaAbs (addr : Word)
  /-- 0x33: RLA* (zero-page),Y (R172). -/
  | rlaIndY (nn : Byte)
  /-- 0x37: RLA* zero-page,X (R172). -/
  | rlaZpX (nn : Byte)
  /-- 0x3B: RLA* absolute,Y (R172). -/
  | rlaAbsY (addr : Word)
  /-- 0x3F: RLA* absolute,X (R172). -/
  | rlaAbsX (addr : Word)
  /-- 0x43: SRE* (zero-page,X) (R173). -/
  | sreIndX (nn : Byte)
  /-- 0x47: SRE* zero-page (R173). -/
  | sreZp (nn : Byte)
  /-- 0x4F: SRE* absolute (R173). -/
  | sreAbs (addr : Word)
  /-- 0x53: SRE* (zero-page),Y (R173). -/
  | sreIndY (nn : Byte)
  /-- 0x57: SRE* zero-page,X (R173). -/
  | sreZpX (nn : Byte)
  /-- 0x5B: SRE* absolute,Y (R173). -/
  | sreAbsY (addr : Word)
  /-- 0x5F: SRE* absolute,X (R173). -/
  | sreAbsX (addr : Word)
  /-- 0x63: RRA* (zero-page,X) (R174). -/
  | rraIndX (nn : Byte)
  /-- 0x67: RRA* zero-page (R174). -/
  | rraZp (nn : Byte)
  /-- 0x6F: RRA* absolute (R174). -/
  | rraAbs (addr : Word)
  /-- 0x73: RRA* (zero-page),Y (R174). -/
  | rraIndY (nn : Byte)
  /-- 0x77: RRA* zero-page,X (R174). -/
  | rraZpX (nn : Byte)
  /-- 0x7B: RRA* absolute,Y (R174). -/
  | rraAbsY (addr : Word)
  /-- 0x7F: RRA* absolute,X (R174). -/
  | rraAbsX (addr : Word)
  /-- An opcode byte with no handler (R72, R176). -/
  | unmapped (opcode : Byte)
deriving DecidableEq, Repr

end Sys2Proof
end

