-- ==== Sys2Proof/Machine/Dispatch.lean ====
section
/-! DEFINITION. The dispatch of an instruction to its meaning, one arm per constructor (40_dispatch_and_addressing.md R77). -/

namespace Sys2Proof.Machine

def exec (i : Instr) (s : State) : Host.Outcome State Fault Refusal :=
  match i with
  | .ldaIndX nn => Sys2Proof.Machine.execLdaIndX nn s
  | .ldaZp nn => Sys2Proof.Machine.execLdaZp nn s
  | .ldaImm nn => Sys2Proof.Machine.execLdaImm nn s
  | .ldaAbs addr => Sys2Proof.Machine.execLdaAbs addr s
  | .ldaIndY nn => Sys2Proof.Machine.execLdaIndY nn s
  | .ldaZpX nn => Sys2Proof.Machine.execLdaZpX nn s
  | .ldaAbsY addr => Sys2Proof.Machine.execLdaAbsY addr s
  | .ldaAbsX addr => Sys2Proof.Machine.execLdaAbsX addr s
  | .ldxImm nn => Sys2Proof.Machine.execLdxImm nn s
  | .ldxZp nn => Sys2Proof.Machine.execLdxZp nn s
  | .ldxAbs addr => Sys2Proof.Machine.execLdxAbs addr s
  | .ldxZpY nn => Sys2Proof.Machine.execLdxZpY nn s
  | .ldxAbsY addr => Sys2Proof.Machine.execLdxAbsY addr s
  | .ldyImm nn => Sys2Proof.Machine.execLdyImm nn s
  | .ldyZp nn => Sys2Proof.Machine.execLdyZp nn s
  | .ldyAbs addr => Sys2Proof.Machine.execLdyAbs addr s
  | .ldyZpX nn => Sys2Proof.Machine.execLdyZpX nn s
  | .ldyAbsX addr => Sys2Proof.Machine.execLdyAbsX addr s
  | .staIndX nn => Sys2Proof.Machine.execStaIndX nn s
  | .staZp nn => Sys2Proof.Machine.execStaZp nn s
  | .staAbs addr => Sys2Proof.Machine.execStaAbs addr s
  | .staIndY nn => Sys2Proof.Machine.execStaIndY nn s
  | .staZpX nn => Sys2Proof.Machine.execStaZpX nn s
  | .staAbsY addr => Sys2Proof.Machine.execStaAbsY addr s
  | .staAbsX addr => Sys2Proof.Machine.execStaAbsX addr s
  | .stxZp nn => Sys2Proof.Machine.execStxZp nn s
  | .stxAbs addr => Sys2Proof.Machine.execStxAbs addr s
  | .stxZpY nn => Sys2Proof.Machine.execStxZpY nn s
  | .styZp nn => Sys2Proof.Machine.execStyZp nn s
  | .styAbs addr => Sys2Proof.Machine.execStyAbs addr s
  | .styZpX nn => Sys2Proof.Machine.execStyZpX nn s
  | .tax => Sys2Proof.Machine.execTax s
  | .tay => Sys2Proof.Machine.execTay s
  | .tsx => Sys2Proof.Machine.execTsx s
  | .txa => Sys2Proof.Machine.execTxa s
  | .txs => Sys2Proof.Machine.execTxs s
  | .tya => Sys2Proof.Machine.execTya s
  | .adcIndX nn => Sys2Proof.Machine.execAdcIndX nn s
  | .adcZp nn => Sys2Proof.Machine.execAdcZp nn s
  | .adcImm nn => Sys2Proof.Machine.execAdcImm nn s
  | .adcAbs addr => Sys2Proof.Machine.execAdcAbs addr s
  | .adcIndY nn => Sys2Proof.Machine.execAdcIndY nn s
  | .adcZpX nn => Sys2Proof.Machine.execAdcZpX nn s
  | .adcAbsY addr => Sys2Proof.Machine.execAdcAbsY addr s
  | .adcAbsX addr => Sys2Proof.Machine.execAdcAbsX addr s
  | .sbcIndX nn => Sys2Proof.Machine.execSbcIndX nn s
  | .sbcZp nn => Sys2Proof.Machine.execSbcZp nn s
  | .sbcImm nn => Sys2Proof.Machine.execSbcImm nn s
  | .sbcAbs addr => Sys2Proof.Machine.execSbcAbs addr s
  | .sbcIndY nn => Sys2Proof.Machine.execSbcIndY nn s
  | .sbcZpX nn => Sys2Proof.Machine.execSbcZpX nn s
  | .sbcAbsY addr => Sys2Proof.Machine.execSbcAbsY addr s
  | .sbcAbsX addr => Sys2Proof.Machine.execSbcAbsX addr s
  | .andIndX nn => Sys2Proof.Machine.execAndIndX nn s
  | .andZp nn => Sys2Proof.Machine.execAndZp nn s
  | .andImm nn => Sys2Proof.Machine.execAndImm nn s
  | .andAbs addr => Sys2Proof.Machine.execAndAbs addr s
  | .andIndY nn => Sys2Proof.Machine.execAndIndY nn s
  | .andZpX nn => Sys2Proof.Machine.execAndZpX nn s
  | .andAbsY addr => Sys2Proof.Machine.execAndAbsY addr s
  | .andAbsX addr => Sys2Proof.Machine.execAndAbsX addr s
  | .oraIndX nn => Sys2Proof.Machine.execOraIndX nn s
  | .oraZp nn => Sys2Proof.Machine.execOraZp nn s
  | .oraImm nn => Sys2Proof.Machine.execOraImm nn s
  | .oraAbs addr => Sys2Proof.Machine.execOraAbs addr s
  | .oraIndY nn => Sys2Proof.Machine.execOraIndY nn s
  | .oraZpX nn => Sys2Proof.Machine.execOraZpX nn s
  | .oraAbsY addr => Sys2Proof.Machine.execOraAbsY addr s
  | .oraAbsX addr => Sys2Proof.Machine.execOraAbsX addr s
  | .eorIndX nn => Sys2Proof.Machine.execEorIndX nn s
  | .eorZp nn => Sys2Proof.Machine.execEorZp nn s
  | .eorImm nn => Sys2Proof.Machine.execEorImm nn s
  | .eorAbs addr => Sys2Proof.Machine.execEorAbs addr s
  | .eorIndY nn => Sys2Proof.Machine.execEorIndY nn s
  | .eorZpX nn => Sys2Proof.Machine.execEorZpX nn s
  | .eorAbsY addr => Sys2Proof.Machine.execEorAbsY addr s
  | .eorAbsX addr => Sys2Proof.Machine.execEorAbsX addr s
  | .bitZp nn => Sys2Proof.Machine.execBitZp nn s
  | .bitAbs addr => Sys2Proof.Machine.execBitAbs addr s
  | .cmpIndX nn => Sys2Proof.Machine.execCmpIndX nn s
  | .cmpZp nn => Sys2Proof.Machine.execCmpZp nn s
  | .cmpImm nn => Sys2Proof.Machine.execCmpImm nn s
  | .cmpAbs addr => Sys2Proof.Machine.execCmpAbs addr s
  | .cmpIndY nn => Sys2Proof.Machine.execCmpIndY nn s
  | .cmpZpX nn => Sys2Proof.Machine.execCmpZpX nn s
  | .cmpAbsY addr => Sys2Proof.Machine.execCmpAbsY addr s
  | .cmpAbsX addr => Sys2Proof.Machine.execCmpAbsX addr s
  | .cpxImm nn => Sys2Proof.Machine.execCpxImm nn s
  | .cpxZp nn => Sys2Proof.Machine.execCpxZp nn s
  | .cpxAbs addr => Sys2Proof.Machine.execCpxAbs addr s
  | .cpyImm nn => Sys2Proof.Machine.execCpyImm nn s
  | .cpyZp nn => Sys2Proof.Machine.execCpyZp nn s
  | .cpyAbs addr => Sys2Proof.Machine.execCpyAbs addr s
  | .incZp nn => Sys2Proof.Machine.execIncZp nn s
  | .incAbs addr => Sys2Proof.Machine.execIncAbs addr s
  | .incZpX nn => Sys2Proof.Machine.execIncZpX nn s
  | .incAbsX addr => Sys2Proof.Machine.execIncAbsX addr s
  | .decZp nn => Sys2Proof.Machine.execDecZp nn s
  | .decAbs addr => Sys2Proof.Machine.execDecAbs addr s
  | .decZpX nn => Sys2Proof.Machine.execDecZpX nn s
  | .decAbsX addr => Sys2Proof.Machine.execDecAbsX addr s
  | .inx => Sys2Proof.Machine.execInx s
  | .iny => Sys2Proof.Machine.execIny s
  | .dex => Sys2Proof.Machine.execDex s
  | .dey => Sys2Proof.Machine.execDey s
  | .aslZp nn => Sys2Proof.Machine.execAslZp nn s
  | .aslAcc => Sys2Proof.Machine.execAslAcc s
  | .aslAbs addr => Sys2Proof.Machine.execAslAbs addr s
  | .aslZpX nn => Sys2Proof.Machine.execAslZpX nn s
  | .aslAbsX addr => Sys2Proof.Machine.execAslAbsX addr s
  | .lsrZp nn => Sys2Proof.Machine.execLsrZp nn s
  | .lsrAcc => Sys2Proof.Machine.execLsrAcc s
  | .lsrAbs addr => Sys2Proof.Machine.execLsrAbs addr s
  | .lsrZpX nn => Sys2Proof.Machine.execLsrZpX nn s
  | .lsrAbsX addr => Sys2Proof.Machine.execLsrAbsX addr s
  | .rolZp nn => Sys2Proof.Machine.execRolZp nn s
  | .rolAcc => Sys2Proof.Machine.execRolAcc s
  | .rolAbs addr => Sys2Proof.Machine.execRolAbs addr s
  | .rolZpX nn => Sys2Proof.Machine.execRolZpX nn s
  | .rolAbsX addr => Sys2Proof.Machine.execRolAbsX addr s
  | .rorZp nn => Sys2Proof.Machine.execRorZp nn s
  | .rorAcc => Sys2Proof.Machine.execRorAcc s
  | .rorAbs addr => Sys2Proof.Machine.execRorAbs addr s
  | .rorZpX nn => Sys2Proof.Machine.execRorZpX nn s
  | .rorAbsX addr => Sys2Proof.Machine.execRorAbsX addr s
  | .bcc dd => Sys2Proof.Machine.execBcc dd s
  | .bcs dd => Sys2Proof.Machine.execBcs dd s
  | .beq dd => Sys2Proof.Machine.execBeq dd s
  | .bmi dd => Sys2Proof.Machine.execBmi dd s
  | .bne dd => Sys2Proof.Machine.execBne dd s
  | .bpl dd => Sys2Proof.Machine.execBpl dd s
  | .bvc dd => Sys2Proof.Machine.execBvc dd s
  | .bvs dd => Sys2Proof.Machine.execBvs dd s
  | .jmpAbs addr => Sys2Proof.Machine.execJmpAbs addr s
  | .jmpInd ptr => Sys2Proof.Machine.execJmpInd ptr s
  | .jsr addr => Sys2Proof.Machine.execJsr addr s
  | .rts => Sys2Proof.Machine.execRts s
  | .brk => Sys2Proof.Machine.execBrk s
  | .rti => Sys2Proof.Machine.execRti s
  | .pha => Sys2Proof.Machine.execPha s
  | .php => Sys2Proof.Machine.execPhp s
  | .pla => Sys2Proof.Machine.execPla s
  | .plp => Sys2Proof.Machine.execPlp s
  | .clc => Sys2Proof.Machine.execClc s
  | .cld => Sys2Proof.Machine.execCld s
  | .cli => Sys2Proof.Machine.execCli s
  | .clv => Sys2Proof.Machine.execClv s
  | .sec => Sys2Proof.Machine.execSec s
  | .sed => Sys2Proof.Machine.execSed s
  | .sei => Sys2Proof.Machine.execSei s
  | .nop => Sys2Proof.Machine.execNop s
  | .nop04 nn => Sys2Proof.Machine.execNop04 nn s
  | .nop0C addr => Sys2Proof.Machine.execNop0C addr s
  | .nop14 nn => Sys2Proof.Machine.execNop14 nn s
  | .nop1A => Sys2Proof.Machine.execNop1A s
  | .nop1C addr => Sys2Proof.Machine.execNop1C addr s
  | .nop34 nn => Sys2Proof.Machine.execNop34 nn s
  | .nop3A => Sys2Proof.Machine.execNop3A s
  | .nop3C addr => Sys2Proof.Machine.execNop3C addr s
  | .nop44 nn => Sys2Proof.Machine.execNop44 nn s
  | .nop54 nn => Sys2Proof.Machine.execNop54 nn s
  | .nop5A => Sys2Proof.Machine.execNop5A s
  | .nop5C addr => Sys2Proof.Machine.execNop5C addr s
  | .nop64 nn => Sys2Proof.Machine.execNop64 nn s
  | .nop74 nn => Sys2Proof.Machine.execNop74 nn s
  | .nop7A => Sys2Proof.Machine.execNop7A s
  | .nop7C addr => Sys2Proof.Machine.execNop7C addr s
  | .nop80 nn => Sys2Proof.Machine.execNop80 nn s
  | .nop82 nn => Sys2Proof.Machine.execNop82 nn s
  | .nop89 nn => Sys2Proof.Machine.execNop89 nn s
  | .nopC2 nn => Sys2Proof.Machine.execNopC2 nn s
  | .nopD4 nn => Sys2Proof.Machine.execNopD4 nn s
  | .nopDA => Sys2Proof.Machine.execNopDA s
  | .nopDC addr => Sys2Proof.Machine.execNopDC addr s
  | .nopE2 nn => Sys2Proof.Machine.execNopE2 nn s
  | .nopF4 nn => Sys2Proof.Machine.execNopF4 nn s
  | .nopFA => Sys2Proof.Machine.execNopFA s
  | .nopFC addr => Sys2Proof.Machine.execNopFC addr s
  | .laxIndX nn => Sys2Proof.Machine.execLaxIndX nn s
  | .laxZp nn => Sys2Proof.Machine.execLaxZp nn s
  | .laxAbs addr => Sys2Proof.Machine.execLaxAbs addr s
  | .laxIndY nn => Sys2Proof.Machine.execLaxIndY nn s
  | .laxZpY nn => Sys2Proof.Machine.execLaxZpY nn s
  | .laxAbsY addr => Sys2Proof.Machine.execLaxAbsY addr s
  | .saxIndX nn => Sys2Proof.Machine.execSaxIndX nn s
  | .saxZp nn => Sys2Proof.Machine.execSaxZp nn s
  | .saxAbs addr => Sys2Proof.Machine.execSaxAbs addr s
  | .saxZpY nn => Sys2Proof.Machine.execSaxZpY nn s
  | .sbcEB nn => Sys2Proof.Machine.execSbcEB nn s
  | .dcpIndX nn => Sys2Proof.Machine.execDcpIndX nn s
  | .dcpZp nn => Sys2Proof.Machine.execDcpZp nn s
  | .dcpAbs addr => Sys2Proof.Machine.execDcpAbs addr s
  | .dcpIndY nn => Sys2Proof.Machine.execDcpIndY nn s
  | .dcpZpX nn => Sys2Proof.Machine.execDcpZpX nn s
  | .dcpAbsY addr => Sys2Proof.Machine.execDcpAbsY addr s
  | .dcpAbsX addr => Sys2Proof.Machine.execDcpAbsX addr s
  | .isbIndX nn => Sys2Proof.Machine.execIsbIndX nn s
  | .isbZp nn => Sys2Proof.Machine.execIsbZp nn s
  | .isbAbs addr => Sys2Proof.Machine.execIsbAbs addr s
  | .isbIndY nn => Sys2Proof.Machine.execIsbIndY nn s
  | .isbZpX nn => Sys2Proof.Machine.execIsbZpX nn s
  | .isbAbsY addr => Sys2Proof.Machine.execIsbAbsY addr s
  | .isbAbsX addr => Sys2Proof.Machine.execIsbAbsX addr s
  | .sloIndX nn => Sys2Proof.Machine.execSloIndX nn s
  | .sloZp nn => Sys2Proof.Machine.execSloZp nn s
  | .sloAbs addr => Sys2Proof.Machine.execSloAbs addr s
  | .sloIndY nn => Sys2Proof.Machine.execSloIndY nn s
  | .sloZpX nn => Sys2Proof.Machine.execSloZpX nn s
  | .sloAbsY addr => Sys2Proof.Machine.execSloAbsY addr s
  | .sloAbsX addr => Sys2Proof.Machine.execSloAbsX addr s
  | .rlaIndX nn => Sys2Proof.Machine.execRlaIndX nn s
  | .rlaZp nn => Sys2Proof.Machine.execRlaZp nn s
  | .rlaAbs addr => Sys2Proof.Machine.execRlaAbs addr s
  | .rlaIndY nn => Sys2Proof.Machine.execRlaIndY nn s
  | .rlaZpX nn => Sys2Proof.Machine.execRlaZpX nn s
  | .rlaAbsY addr => Sys2Proof.Machine.execRlaAbsY addr s
  | .rlaAbsX addr => Sys2Proof.Machine.execRlaAbsX addr s
  | .sreIndX nn => Sys2Proof.Machine.execSreIndX nn s
  | .sreZp nn => Sys2Proof.Machine.execSreZp nn s
  | .sreAbs addr => Sys2Proof.Machine.execSreAbs addr s
  | .sreIndY nn => Sys2Proof.Machine.execSreIndY nn s
  | .sreZpX nn => Sys2Proof.Machine.execSreZpX nn s
  | .sreAbsY addr => Sys2Proof.Machine.execSreAbsY addr s
  | .sreAbsX addr => Sys2Proof.Machine.execSreAbsX addr s
  | .rraIndX nn => Sys2Proof.Machine.execRraIndX nn s
  | .rraZp nn => Sys2Proof.Machine.execRraZp nn s
  | .rraAbs addr => Sys2Proof.Machine.execRraAbs addr s
  | .rraIndY nn => Sys2Proof.Machine.execRraIndY nn s
  | .rraZpX nn => Sys2Proof.Machine.execRraZpX nn s
  | .rraAbsY addr => Sys2Proof.Machine.execRraAbsY addr s
  | .rraAbsX addr => Sys2Proof.Machine.execRraAbsX addr s
  | .unmapped opcode => Sys2Proof.Machine.execUnmapped opcode s

end Sys2Proof.Machine
end

