-- ==== Sys2Proof/Decode.lean ====
section
/-! DEFINITION. The decoder, total on any bytes, from the opcode map of 30_encoding.md R71; then the encoder. -/

namespace Sys2Proof

/-- An entry of the 256-entry dispatch table (R77): how many operand bytes the opcode takes (R67) and the
instruction they make, or the "explicit fatal-fault marker" of an unmapped byte. -/
inductive Handler where
  | unmapped
  | implied (i : Instr)
  | oneByte (f : Byte → Instr)
  | twoBytes (f : Word → Instr)

/-- The dispatch table (R71, R77). The bytes not listed are the 25 of R72. -/
def handler (opcode : Byte) : Handler :=
  match opcode.toNat with
  | 0x00 => .implied .brk
  | 0x01 => .oneByte .oraIndX
  | 0x03 => .oneByte .sloIndX
  | 0x04 => .oneByte .nop04
  | 0x05 => .oneByte .oraZp
  | 0x06 => .oneByte .aslZp
  | 0x07 => .oneByte .sloZp
  | 0x08 => .implied .php
  | 0x09 => .oneByte .oraImm
  | 0x0A => .implied .aslAcc
  | 0x0C => .twoBytes .nop0C
  | 0x0D => .twoBytes .oraAbs
  | 0x0E => .twoBytes .aslAbs
  | 0x0F => .twoBytes .sloAbs
  | 0x10 => .oneByte .bpl
  | 0x11 => .oneByte .oraIndY
  | 0x13 => .oneByte .sloIndY
  | 0x14 => .oneByte .nop14
  | 0x15 => .oneByte .oraZpX
  | 0x16 => .oneByte .aslZpX
  | 0x17 => .oneByte .sloZpX
  | 0x18 => .implied .clc
  | 0x19 => .twoBytes .oraAbsY
  | 0x1A => .implied .nop1A
  | 0x1B => .twoBytes .sloAbsY
  | 0x1C => .twoBytes .nop1C
  | 0x1D => .twoBytes .oraAbsX
  | 0x1E => .twoBytes .aslAbsX
  | 0x1F => .twoBytes .sloAbsX
  | 0x20 => .twoBytes .jsr
  | 0x21 => .oneByte .andIndX
  | 0x23 => .oneByte .rlaIndX
  | 0x24 => .oneByte .bitZp
  | 0x25 => .oneByte .andZp
  | 0x26 => .oneByte .rolZp
  | 0x27 => .oneByte .rlaZp
  | 0x28 => .implied .plp
  | 0x29 => .oneByte .andImm
  | 0x2A => .implied .rolAcc
  | 0x2C => .twoBytes .bitAbs
  | 0x2D => .twoBytes .andAbs
  | 0x2E => .twoBytes .rolAbs
  | 0x2F => .twoBytes .rlaAbs
  | 0x30 => .oneByte .bmi
  | 0x31 => .oneByte .andIndY
  | 0x33 => .oneByte .rlaIndY
  | 0x34 => .oneByte .nop34
  | 0x35 => .oneByte .andZpX
  | 0x36 => .oneByte .rolZpX
  | 0x37 => .oneByte .rlaZpX
  | 0x38 => .implied .sec
  | 0x39 => .twoBytes .andAbsY
  | 0x3A => .implied .nop3A
  | 0x3B => .twoBytes .rlaAbsY
  | 0x3C => .twoBytes .nop3C
  | 0x3D => .twoBytes .andAbsX
  | 0x3E => .twoBytes .rolAbsX
  | 0x3F => .twoBytes .rlaAbsX
  | 0x40 => .implied .rti
  | 0x41 => .oneByte .eorIndX
  | 0x43 => .oneByte .sreIndX
  | 0x44 => .oneByte .nop44
  | 0x45 => .oneByte .eorZp
  | 0x46 => .oneByte .lsrZp
  | 0x47 => .oneByte .sreZp
  | 0x48 => .implied .pha
  | 0x49 => .oneByte .eorImm
  | 0x4A => .implied .lsrAcc
  | 0x4C => .twoBytes .jmpAbs
  | 0x4D => .twoBytes .eorAbs
  | 0x4E => .twoBytes .lsrAbs
  | 0x4F => .twoBytes .sreAbs
  | 0x50 => .oneByte .bvc
  | 0x51 => .oneByte .eorIndY
  | 0x53 => .oneByte .sreIndY
  | 0x54 => .oneByte .nop54
  | 0x55 => .oneByte .eorZpX
  | 0x56 => .oneByte .lsrZpX
  | 0x57 => .oneByte .sreZpX
  | 0x58 => .implied .cli
  | 0x59 => .twoBytes .eorAbsY
  | 0x5A => .implied .nop5A
  | 0x5B => .twoBytes .sreAbsY
  | 0x5C => .twoBytes .nop5C
  | 0x5D => .twoBytes .eorAbsX
  | 0x5E => .twoBytes .lsrAbsX
  | 0x5F => .twoBytes .sreAbsX
  | 0x60 => .implied .rts
  | 0x61 => .oneByte .adcIndX
  | 0x63 => .oneByte .rraIndX
  | 0x64 => .oneByte .nop64
  | 0x65 => .oneByte .adcZp
  | 0x66 => .oneByte .rorZp
  | 0x67 => .oneByte .rraZp
  | 0x68 => .implied .pla
  | 0x69 => .oneByte .adcImm
  | 0x6A => .implied .rorAcc
  | 0x6C => .twoBytes .jmpInd
  | 0x6D => .twoBytes .adcAbs
  | 0x6E => .twoBytes .rorAbs
  | 0x6F => .twoBytes .rraAbs
  | 0x70 => .oneByte .bvs
  | 0x71 => .oneByte .adcIndY
  | 0x73 => .oneByte .rraIndY
  | 0x74 => .oneByte .nop74
  | 0x75 => .oneByte .adcZpX
  | 0x76 => .oneByte .rorZpX
  | 0x77 => .oneByte .rraZpX
  | 0x78 => .implied .sei
  | 0x79 => .twoBytes .adcAbsY
  | 0x7A => .implied .nop7A
  | 0x7B => .twoBytes .rraAbsY
  | 0x7C => .twoBytes .nop7C
  | 0x7D => .twoBytes .adcAbsX
  | 0x7E => .twoBytes .rorAbsX
  | 0x7F => .twoBytes .rraAbsX
  | 0x80 => .oneByte .nop80
  | 0x81 => .oneByte .staIndX
  | 0x82 => .oneByte .nop82
  | 0x83 => .oneByte .saxIndX
  | 0x84 => .oneByte .styZp
  | 0x85 => .oneByte .staZp
  | 0x86 => .oneByte .stxZp
  | 0x87 => .oneByte .saxZp
  | 0x88 => .implied .dey
  | 0x89 => .oneByte .nop89
  | 0x8A => .implied .txa
  | 0x8C => .twoBytes .styAbs
  | 0x8D => .twoBytes .staAbs
  | 0x8E => .twoBytes .stxAbs
  | 0x8F => .twoBytes .saxAbs
  | 0x90 => .oneByte .bcc
  | 0x91 => .oneByte .staIndY
  | 0x94 => .oneByte .styZpX
  | 0x95 => .oneByte .staZpX
  | 0x96 => .oneByte .stxZpY
  | 0x97 => .oneByte .saxZpY
  | 0x98 => .implied .tya
  | 0x99 => .twoBytes .staAbsY
  | 0x9A => .implied .txs
  | 0x9D => .twoBytes .staAbsX
  | 0xA0 => .oneByte .ldyImm
  | 0xA1 => .oneByte .ldaIndX
  | 0xA2 => .oneByte .ldxImm
  | 0xA3 => .oneByte .laxIndX
  | 0xA4 => .oneByte .ldyZp
  | 0xA5 => .oneByte .ldaZp
  | 0xA6 => .oneByte .ldxZp
  | 0xA7 => .oneByte .laxZp
  | 0xA8 => .implied .tay
  | 0xA9 => .oneByte .ldaImm
  | 0xAA => .implied .tax
  | 0xAC => .twoBytes .ldyAbs
  | 0xAD => .twoBytes .ldaAbs
  | 0xAE => .twoBytes .ldxAbs
  | 0xAF => .twoBytes .laxAbs
  | 0xB0 => .oneByte .bcs
  | 0xB1 => .oneByte .ldaIndY
  | 0xB3 => .oneByte .laxIndY
  | 0xB4 => .oneByte .ldyZpX
  | 0xB5 => .oneByte .ldaZpX
  | 0xB6 => .oneByte .ldxZpY
  | 0xB7 => .oneByte .laxZpY
  | 0xB8 => .implied .clv
  | 0xB9 => .twoBytes .ldaAbsY
  | 0xBA => .implied .tsx
  | 0xBC => .twoBytes .ldyAbsX
  | 0xBD => .twoBytes .ldaAbsX
  | 0xBE => .twoBytes .ldxAbsY
  | 0xBF => .twoBytes .laxAbsY
  | 0xC0 => .oneByte .cpyImm
  | 0xC1 => .oneByte .cmpIndX
  | 0xC2 => .oneByte .nopC2
  | 0xC3 => .oneByte .dcpIndX
  | 0xC4 => .oneByte .cpyZp
  | 0xC5 => .oneByte .cmpZp
  | 0xC6 => .oneByte .decZp
  | 0xC7 => .oneByte .dcpZp
  | 0xC8 => .implied .iny
  | 0xC9 => .oneByte .cmpImm
  | 0xCA => .implied .dex
  | 0xCC => .twoBytes .cpyAbs
  | 0xCD => .twoBytes .cmpAbs
  | 0xCE => .twoBytes .decAbs
  | 0xCF => .twoBytes .dcpAbs
  | 0xD0 => .oneByte .bne
  | 0xD1 => .oneByte .cmpIndY
  | 0xD3 => .oneByte .dcpIndY
  | 0xD4 => .oneByte .nopD4
  | 0xD5 => .oneByte .cmpZpX
  | 0xD6 => .oneByte .decZpX
  | 0xD7 => .oneByte .dcpZpX
  | 0xD8 => .implied .cld
  | 0xD9 => .twoBytes .cmpAbsY
  | 0xDA => .implied .nopDA
  | 0xDB => .twoBytes .dcpAbsY
  | 0xDC => .twoBytes .nopDC
  | 0xDD => .twoBytes .cmpAbsX
  | 0xDE => .twoBytes .decAbsX
  | 0xDF => .twoBytes .dcpAbsX
  | 0xE0 => .oneByte .cpxImm
  | 0xE1 => .oneByte .sbcIndX
  | 0xE2 => .oneByte .nopE2
  | 0xE3 => .oneByte .isbIndX
  | 0xE4 => .oneByte .cpxZp
  | 0xE5 => .oneByte .sbcZp
  | 0xE6 => .oneByte .incZp
  | 0xE7 => .oneByte .isbZp
  | 0xE8 => .implied .inx
  | 0xE9 => .oneByte .sbcImm
  | 0xEA => .implied .nop
  | 0xEB => .oneByte .sbcEB
  | 0xEC => .twoBytes .cpxAbs
  | 0xED => .twoBytes .sbcAbs
  | 0xEE => .twoBytes .incAbs
  | 0xEF => .twoBytes .isbAbs
  | 0xF0 => .oneByte .beq
  | 0xF1 => .oneByte .sbcIndY
  | 0xF3 => .oneByte .isbIndY
  | 0xF4 => .oneByte .nopF4
  | 0xF5 => .oneByte .sbcZpX
  | 0xF6 => .oneByte .incZpX
  | 0xF7 => .oneByte .isbZpX
  | 0xF8 => .implied .sed
  | 0xF9 => .twoBytes .sbcAbsY
  | 0xFA => .implied .nopFA
  | 0xFB => .twoBytes .isbAbsY
  | 0xFC => .twoBytes .nopFC
  | 0xFD => .twoBytes .sbcAbsX
  | 0xFE => .twoBytes .incAbsX
  | 0xFF => .twoBytes .isbAbsX
  | _ => .unmapped

/-- How many operand bytes follow the opcode (R67, R68); an unmapped byte takes none. -/
def operandCount (opcode : Byte) : Nat :=
  match handler opcode with
  | .unmapped | .implied _ => 0
  | .oneByte _ => 1
  | .twoBytes _ => 2

/-- Whether the opcode byte is one of the 231 of R66. -/
def hasHandler (opcode : Byte) : Bool :=
  match handler opcode with
  | .unmapped => false
  | .implied _ | .oneByte _ | .twoBytes _ => true

/-- Why bytes are not an instruction. Every opcode byte has an entry, so only a missing byte is a reason. -/
inductive DecodeError where
  /-- There is no opcode byte. -/
  | noOpcode
  /-- The operand bytes of this opcode are not all there. -/
  | missingOperand (opcode : Byte)
deriving DecidableEq, Repr

/-- What the decoder answers: the instruction and the bytes after it, or a rejection by name. -/
inductive DecodeResult where
  | ok (i : Instr) (rest : List Byte)
  | rejected (why : DecodeError)
deriving DecidableEq, Repr

/-- Decode the instruction at the front of a list of bytes (R67). A two-byte operand is little-endian (R70).
An unmapped byte decodes to `Instr.unmapped` (R72, R77). -/
def decode : List Byte → DecodeResult
  | [] => .rejected .noOpcode
  | opcode :: rest =>
    match handler opcode, rest with
    | .unmapped, _ => .ok (.unmapped opcode) rest
    | .implied i, _ => .ok i rest
    | .oneByte f, b :: rest => .ok (f b) rest
    | .twoBytes f, ll :: hh :: rest => .ok (f (word hh ll)) rest
    | .oneByte _, [] | .twoBytes _, [] | .twoBytes _, [_] => .rejected (.missingOperand opcode)

/-- The bytes of the instruction whose bits are `w`, numbered as spec/opcode_table.json numbers them (bit 0 the
least significant bit of the first byte), laid out as stored, the first at the lowest address. Bits from
`nbits` up are 0; three bytes are the longest instruction (R68). -/
def tableBytes (nbits w : Nat) : List Byte :=
  let v := w % 2 ^ nbits
  [BitVec.ofNat 8 v, BitVec.ofNat 8 (v >>> 8), BitVec.ofNat 8 (v >>> 16)]

/-- The instruction the decoder reads from a table word. -/
def decodeTableWord (nbits w : Nat) : Option Instr :=
  match decode (tableBytes nbits w) with
  | .ok i _ => some i
  | .rejected _ => none

/-- The bytes of an instruction (R68, R70, R71). -/
def encode : Instr → List Byte
  | .ldaIndX nn => [0xA1#8, nn]
  | .ldaZp nn => [0xA5#8, nn]
  | .ldaImm nn => [0xA9#8, nn]
  | .ldaAbs addr => [0xAD#8, lo8 addr, hi8 addr]
  | .ldaIndY nn => [0xB1#8, nn]
  | .ldaZpX nn => [0xB5#8, nn]
  | .ldaAbsY addr => [0xB9#8, lo8 addr, hi8 addr]
  | .ldaAbsX addr => [0xBD#8, lo8 addr, hi8 addr]
  | .ldxImm nn => [0xA2#8, nn]
  | .ldxZp nn => [0xA6#8, nn]
  | .ldxAbs addr => [0xAE#8, lo8 addr, hi8 addr]
  | .ldxZpY nn => [0xB6#8, nn]
  | .ldxAbsY addr => [0xBE#8, lo8 addr, hi8 addr]
  | .ldyImm nn => [0xA0#8, nn]
  | .ldyZp nn => [0xA4#8, nn]
  | .ldyAbs addr => [0xAC#8, lo8 addr, hi8 addr]
  | .ldyZpX nn => [0xB4#8, nn]
  | .ldyAbsX addr => [0xBC#8, lo8 addr, hi8 addr]
  | .staIndX nn => [0x81#8, nn]
  | .staZp nn => [0x85#8, nn]
  | .staAbs addr => [0x8D#8, lo8 addr, hi8 addr]
  | .staIndY nn => [0x91#8, nn]
  | .staZpX nn => [0x95#8, nn]
  | .staAbsY addr => [0x99#8, lo8 addr, hi8 addr]
  | .staAbsX addr => [0x9D#8, lo8 addr, hi8 addr]
  | .stxZp nn => [0x86#8, nn]
  | .stxAbs addr => [0x8E#8, lo8 addr, hi8 addr]
  | .stxZpY nn => [0x96#8, nn]
  | .styZp nn => [0x84#8, nn]
  | .styAbs addr => [0x8C#8, lo8 addr, hi8 addr]
  | .styZpX nn => [0x94#8, nn]
  | .tax => [0xAA#8]
  | .tay => [0xA8#8]
  | .tsx => [0xBA#8]
  | .txa => [0x8A#8]
  | .txs => [0x9A#8]
  | .tya => [0x98#8]
  | .adcIndX nn => [0x61#8, nn]
  | .adcZp nn => [0x65#8, nn]
  | .adcImm nn => [0x69#8, nn]
  | .adcAbs addr => [0x6D#8, lo8 addr, hi8 addr]
  | .adcIndY nn => [0x71#8, nn]
  | .adcZpX nn => [0x75#8, nn]
  | .adcAbsY addr => [0x79#8, lo8 addr, hi8 addr]
  | .adcAbsX addr => [0x7D#8, lo8 addr, hi8 addr]
  | .sbcIndX nn => [0xE1#8, nn]
  | .sbcZp nn => [0xE5#8, nn]
  | .sbcImm nn => [0xE9#8, nn]
  | .sbcAbs addr => [0xED#8, lo8 addr, hi8 addr]
  | .sbcIndY nn => [0xF1#8, nn]
  | .sbcZpX nn => [0xF5#8, nn]
  | .sbcAbsY addr => [0xF9#8, lo8 addr, hi8 addr]
  | .sbcAbsX addr => [0xFD#8, lo8 addr, hi8 addr]
  | .andIndX nn => [0x21#8, nn]
  | .andZp nn => [0x25#8, nn]
  | .andImm nn => [0x29#8, nn]
  | .andAbs addr => [0x2D#8, lo8 addr, hi8 addr]
  | .andIndY nn => [0x31#8, nn]
  | .andZpX nn => [0x35#8, nn]
  | .andAbsY addr => [0x39#8, lo8 addr, hi8 addr]
  | .andAbsX addr => [0x3D#8, lo8 addr, hi8 addr]
  | .oraIndX nn => [0x01#8, nn]
  | .oraZp nn => [0x05#8, nn]
  | .oraImm nn => [0x09#8, nn]
  | .oraAbs addr => [0x0D#8, lo8 addr, hi8 addr]
  | .oraIndY nn => [0x11#8, nn]
  | .oraZpX nn => [0x15#8, nn]
  | .oraAbsY addr => [0x19#8, lo8 addr, hi8 addr]
  | .oraAbsX addr => [0x1D#8, lo8 addr, hi8 addr]
  | .eorIndX nn => [0x41#8, nn]
  | .eorZp nn => [0x45#8, nn]
  | .eorImm nn => [0x49#8, nn]
  | .eorAbs addr => [0x4D#8, lo8 addr, hi8 addr]
  | .eorIndY nn => [0x51#8, nn]
  | .eorZpX nn => [0x55#8, nn]
  | .eorAbsY addr => [0x59#8, lo8 addr, hi8 addr]
  | .eorAbsX addr => [0x5D#8, lo8 addr, hi8 addr]
  | .bitZp nn => [0x24#8, nn]
  | .bitAbs addr => [0x2C#8, lo8 addr, hi8 addr]
  | .cmpIndX nn => [0xC1#8, nn]
  | .cmpZp nn => [0xC5#8, nn]
  | .cmpImm nn => [0xC9#8, nn]
  | .cmpAbs addr => [0xCD#8, lo8 addr, hi8 addr]
  | .cmpIndY nn => [0xD1#8, nn]
  | .cmpZpX nn => [0xD5#8, nn]
  | .cmpAbsY addr => [0xD9#8, lo8 addr, hi8 addr]
  | .cmpAbsX addr => [0xDD#8, lo8 addr, hi8 addr]
  | .cpxImm nn => [0xE0#8, nn]
  | .cpxZp nn => [0xE4#8, nn]
  | .cpxAbs addr => [0xEC#8, lo8 addr, hi8 addr]
  | .cpyImm nn => [0xC0#8, nn]
  | .cpyZp nn => [0xC4#8, nn]
  | .cpyAbs addr => [0xCC#8, lo8 addr, hi8 addr]
  | .incZp nn => [0xE6#8, nn]
  | .incAbs addr => [0xEE#8, lo8 addr, hi8 addr]
  | .incZpX nn => [0xF6#8, nn]
  | .incAbsX addr => [0xFE#8, lo8 addr, hi8 addr]
  | .decZp nn => [0xC6#8, nn]
  | .decAbs addr => [0xCE#8, lo8 addr, hi8 addr]
  | .decZpX nn => [0xD6#8, nn]
  | .decAbsX addr => [0xDE#8, lo8 addr, hi8 addr]
  | .inx => [0xE8#8]
  | .iny => [0xC8#8]
  | .dex => [0xCA#8]
  | .dey => [0x88#8]
  | .aslZp nn => [0x06#8, nn]
  | .aslAcc => [0x0A#8]
  | .aslAbs addr => [0x0E#8, lo8 addr, hi8 addr]
  | .aslZpX nn => [0x16#8, nn]
  | .aslAbsX addr => [0x1E#8, lo8 addr, hi8 addr]
  | .lsrZp nn => [0x46#8, nn]
  | .lsrAcc => [0x4A#8]
  | .lsrAbs addr => [0x4E#8, lo8 addr, hi8 addr]
  | .lsrZpX nn => [0x56#8, nn]
  | .lsrAbsX addr => [0x5E#8, lo8 addr, hi8 addr]
  | .rolZp nn => [0x26#8, nn]
  | .rolAcc => [0x2A#8]
  | .rolAbs addr => [0x2E#8, lo8 addr, hi8 addr]
  | .rolZpX nn => [0x36#8, nn]
  | .rolAbsX addr => [0x3E#8, lo8 addr, hi8 addr]
  | .rorZp nn => [0x66#8, nn]
  | .rorAcc => [0x6A#8]
  | .rorAbs addr => [0x6E#8, lo8 addr, hi8 addr]
  | .rorZpX nn => [0x76#8, nn]
  | .rorAbsX addr => [0x7E#8, lo8 addr, hi8 addr]
  | .bcc dd => [0x90#8, dd]
  | .bcs dd => [0xB0#8, dd]
  | .beq dd => [0xF0#8, dd]
  | .bmi dd => [0x30#8, dd]
  | .bne dd => [0xD0#8, dd]
  | .bpl dd => [0x10#8, dd]
  | .bvc dd => [0x50#8, dd]
  | .bvs dd => [0x70#8, dd]
  | .jmpAbs addr => [0x4C#8, lo8 addr, hi8 addr]
  | .jmpInd ptr => [0x6C#8, lo8 ptr, hi8 ptr]
  | .jsr addr => [0x20#8, lo8 addr, hi8 addr]
  | .rts => [0x60#8]
  | .brk => [0x00#8]
  | .rti => [0x40#8]
  | .pha => [0x48#8]
  | .php => [0x08#8]
  | .pla => [0x68#8]
  | .plp => [0x28#8]
  | .clc => [0x18#8]
  | .cld => [0xD8#8]
  | .cli => [0x58#8]
  | .clv => [0xB8#8]
  | .sec => [0x38#8]
  | .sed => [0xF8#8]
  | .sei => [0x78#8]
  | .nop => [0xEA#8]
  | .nop04 nn => [0x04#8, nn]
  | .nop0C addr => [0x0C#8, lo8 addr, hi8 addr]
  | .nop14 nn => [0x14#8, nn]
  | .nop1A => [0x1A#8]
  | .nop1C addr => [0x1C#8, lo8 addr, hi8 addr]
  | .nop34 nn => [0x34#8, nn]
  | .nop3A => [0x3A#8]
  | .nop3C addr => [0x3C#8, lo8 addr, hi8 addr]
  | .nop44 nn => [0x44#8, nn]
  | .nop54 nn => [0x54#8, nn]
  | .nop5A => [0x5A#8]
  | .nop5C addr => [0x5C#8, lo8 addr, hi8 addr]
  | .nop64 nn => [0x64#8, nn]
  | .nop74 nn => [0x74#8, nn]
  | .nop7A => [0x7A#8]
  | .nop7C addr => [0x7C#8, lo8 addr, hi8 addr]
  | .nop80 nn => [0x80#8, nn]
  | .nop82 nn => [0x82#8, nn]
  | .nop89 nn => [0x89#8, nn]
  | .nopC2 nn => [0xC2#8, nn]
  | .nopD4 nn => [0xD4#8, nn]
  | .nopDA => [0xDA#8]
  | .nopDC addr => [0xDC#8, lo8 addr, hi8 addr]
  | .nopE2 nn => [0xE2#8, nn]
  | .nopF4 nn => [0xF4#8, nn]
  | .nopFA => [0xFA#8]
  | .nopFC addr => [0xFC#8, lo8 addr, hi8 addr]
  | .laxIndX nn => [0xA3#8, nn]
  | .laxZp nn => [0xA7#8, nn]
  | .laxAbs addr => [0xAF#8, lo8 addr, hi8 addr]
  | .laxIndY nn => [0xB3#8, nn]
  | .laxZpY nn => [0xB7#8, nn]
  | .laxAbsY addr => [0xBF#8, lo8 addr, hi8 addr]
  | .saxIndX nn => [0x83#8, nn]
  | .saxZp nn => [0x87#8, nn]
  | .saxAbs addr => [0x8F#8, lo8 addr, hi8 addr]
  | .saxZpY nn => [0x97#8, nn]
  | .sbcEB nn => [0xEB#8, nn]
  | .dcpIndX nn => [0xC3#8, nn]
  | .dcpZp nn => [0xC7#8, nn]
  | .dcpAbs addr => [0xCF#8, lo8 addr, hi8 addr]
  | .dcpIndY nn => [0xD3#8, nn]
  | .dcpZpX nn => [0xD7#8, nn]
  | .dcpAbsY addr => [0xDB#8, lo8 addr, hi8 addr]
  | .dcpAbsX addr => [0xDF#8, lo8 addr, hi8 addr]
  | .isbIndX nn => [0xE3#8, nn]
  | .isbZp nn => [0xE7#8, nn]
  | .isbAbs addr => [0xEF#8, lo8 addr, hi8 addr]
  | .isbIndY nn => [0xF3#8, nn]
  | .isbZpX nn => [0xF7#8, nn]
  | .isbAbsY addr => [0xFB#8, lo8 addr, hi8 addr]
  | .isbAbsX addr => [0xFF#8, lo8 addr, hi8 addr]
  | .sloIndX nn => [0x03#8, nn]
  | .sloZp nn => [0x07#8, nn]
  | .sloAbs addr => [0x0F#8, lo8 addr, hi8 addr]
  | .sloIndY nn => [0x13#8, nn]
  | .sloZpX nn => [0x17#8, nn]
  | .sloAbsY addr => [0x1B#8, lo8 addr, hi8 addr]
  | .sloAbsX addr => [0x1F#8, lo8 addr, hi8 addr]
  | .rlaIndX nn => [0x23#8, nn]
  | .rlaZp nn => [0x27#8, nn]
  | .rlaAbs addr => [0x2F#8, lo8 addr, hi8 addr]
  | .rlaIndY nn => [0x33#8, nn]
  | .rlaZpX nn => [0x37#8, nn]
  | .rlaAbsY addr => [0x3B#8, lo8 addr, hi8 addr]
  | .rlaAbsX addr => [0x3F#8, lo8 addr, hi8 addr]
  | .sreIndX nn => [0x43#8, nn]
  | .sreZp nn => [0x47#8, nn]
  | .sreAbs addr => [0x4F#8, lo8 addr, hi8 addr]
  | .sreIndY nn => [0x53#8, nn]
  | .sreZpX nn => [0x57#8, nn]
  | .sreAbsY addr => [0x5B#8, lo8 addr, hi8 addr]
  | .sreAbsX addr => [0x5F#8, lo8 addr, hi8 addr]
  | .rraIndX nn => [0x63#8, nn]
  | .rraZp nn => [0x67#8, nn]
  | .rraAbs addr => [0x6F#8, lo8 addr, hi8 addr]
  | .rraIndY nn => [0x73#8, nn]
  | .rraZpX nn => [0x77#8, nn]
  | .rraAbsY addr => [0x7B#8, lo8 addr, hi8 addr]
  | .rraAbsX addr => [0x7F#8, lo8 addr, hi8 addr]
  | .unmapped opcode => [opcode]

end Sys2Proof
end

