-- ==== Sys2Proof/Machine/Fetch.lean ====
section
/-! DEFINITION. The fetch and decode half of `step()` (40_dispatch_and_addressing.md R75 to R77), and the
placing of an instruction where the next step fetches it. -/

namespace Sys2Proof.Machine

/-- Whether an opcode byte is in `MAPPED_SET` (R6, R66): it has a handler and the configuration has not
taken it out. -/
def inMappedSet (c : Config) (opcode : Byte) : Bool := hasHandler opcode && !c.removed.contains opcode

/-- Fetch that many instruction-stream bytes, in increasing `PC` order (R60, R75). -/
def State.fetchBytes : Nat → State → List Byte × State
  | 0, s => ([], s)
  | n + 1, s =>
    let b := s.fetch8
    let bs := State.fetchBytes n b.2
    (b.1 :: bs.1, bs.2)

/-- What a fetch gives: the bytes read, the instruction they are, and the state with `PC` after them. -/
structure Fetched where
  bytes : List Byte
  instr : Instr
  after : State
deriving DecidableEq, Repr

/-- The instruction the bytes of one fetch decode to. A fetch reads as many bytes as the opcode takes, so
no rejection arises. -/
def instrOf (opcode : Byte) (bytes : List Byte) : Instr :=
  match decode bytes with
  | .ok i _ => i
  | .rejected _ => .unmapped opcode

/-- Fetch the opcode byte, dispatch it by exact value, and fetch the operand bytes its mode takes (R76,
R77, R85). A byte that is not in `MAPPED_SET` is the fatal-fault marker, and nothing more is fetched. -/
def State.fetchInstr (s : State) : Fetched :=
  let op := s.fetch8
  if inMappedSet s.config op.1 then
    let operands := op.2.fetchBytes (operandCount op.1)
    { bytes := op.1 :: operands.1, instr := instrOf op.1 (op.1 :: operands.1), after := operands.2 }
  else { bytes := [op.1], instr := .unmapped op.1, after := op.2 }

/-- The start of a step: its outputs are empty (R82), and a step has been called (R58). -/
def State.beginStep (s : State) : State := { s with started := true, portCalls := [], cycles := 0 }

/-- Where a placed program stands: the first program bank (R44, R57). -/
def programBase : Word := 0x8000#16

/-- Place a program's bytes at the first program bank and make the next step fetch there: `PC` at its
first byte, as a reset through a vector that names it leaves `PC` (R195, R198), the halt mark clear and
no interrupt pending. Log entry 5. -/
def State.placeProgram (s : State) (bytes : List Byte) : State :=
  { s with
    storage := s.storage.writeBytes programBase.toNat bytes
    pc := programBase
    halted := false
    nmiPending := false
    irqLine := false }

end Sys2Proof.Machine
end

