-- ==== Sys2Proof/Machine/Interrupt.lean ====
section
/-! DEFINITION. The optional hardware-interrupt extension (60_exceptions.md R184 to R187), off by default
(R183). -/

namespace Sys2Proof.Machine

/-- The `NMI` input: "each assertion is latched as one pending NMI" (R184). Without the extension the block
has no such input (R183), and nothing happens. -/
def State.assertNmi (s : State) : State := if s.config.hwInterrupts then { s with nmiPending := true } else s

/-- The `IRQ` input, "pending while asserted" (R184). Without the extension nothing happens (R183). -/
def State.setIrq (s : State) (level : Bool) : State :=
  if s.config.hwInterrupts then { s with irqLine := level } else s

/-- The interrupt a step takes instead of an instruction (R185, R187): NMI first, then IRQ if `P.I = 0`. -/
def State.pendingInterrupt (s : State) : Option Interrupt :=
  if s.config.hwInterrupts then
    if s.nmiPending then some .nmi
    else if s.irqLine && !s.flag .i then some .irq
    else none
  else none

/-- The vector of an interrupt (R186). -/
def Interrupt.vector : Interrupt → Word
  | .nmi => 0xFFFA#16
  | .irq => 0xFFFE#16

/-- Taking an interrupt (R185, R186): the NMI latch is cleared, the return address is `PC` with no offset,
and the step returns 7 cycles. -/
def State.takeInterrupt (s : State) (k : Interrupt) : State :=
  let s1 := match k with
    | .nmi => { s with nmiPending := false }
    | .irq => s
  (s1.takeException s1.pc .highFirst (pushedByInterrupt s1.p) k.vector).charge 7

end Sys2Proof.Machine
end

