-- ==== Sys2Proof/Machine/Step.lean ====
section
/-! DEFINITION. One `step()` (40_dispatch_and_addressing.md R76, 60_exceptions.md R178 R185). -/

namespace Sys2Proof.Machine

/-- `step()`: a halted block has no step (R178); a pending interrupt of the extension is the whole step
(R185); otherwise fetch, decode, and run the instruction's meaning (R76). -/
def step (s : State) : Host.Outcome State Fault Refusal :=
  if s.halted then .fault .halted
  else
    match s.pendingInterrupt with
    | some k => .next (s.beginStep.takeInterrupt k)
    | none => exec s.beginStep.fetchInstr.instr s.beginStep.fetchInstr.after

/-- The state whose next step fetches and runs the instruction of a table word (log entry 5). -/
def State.withFetchWord (s : State) (nbits w : Nat) : State := s.placeProgram (tableBytes nbits w)

end Sys2Proof.Machine
end

