-- ==== Sys2Proof/Machine/Names.lean ====
section
/-! DEFINITION. What an instruction is called and where its operand is: the mnemonic of its row of
spec/opcode_table.json, and the addressing mode of a row with a memory operand (30_encoding.md R68 R71). The
statements about many instructions are written with them; no meaning uses them. -/

namespace Sys2Proof

/-- The mnemonics of spec/opcode_table.json. -/
inductive Mnemonic where
  | lda | ldx | ldy | sta | stx | sty | tax | tay | tsx | txa | txs | tya
  | adc | sbc | and | ora | eor | bit | cmp | cpx | cpy | inc | dec | inx
  | iny | dex | dey | asl | lsr | rol | ror | bcc | bcs | beq | bmi | bne
  | bpl | bvc | bvs | jmp | jsr | rts | brk | rti | pha | php | pla | plp
  | clc | cld | cli | clv | sec | sed | sei | nop | lax | sax | dcp | isb
  | slo | rla | sre | rra
  | unmapped
deriving DecidableEq, Repr

/-- The mnemonic of an instruction's row (R71). -/
def Instr.mnemonic : Instr → Mnemonic
  | .ldaIndX _ | .ldaZp _ | .ldaImm _ | .ldaAbs _ | .ldaIndY _ | .ldaZpX _ | .ldaAbsY _ | .ldaAbsX _ => .lda
  | .ldxImm _ | .ldxZp _ | .ldxAbs _ | .ldxZpY _ | .ldxAbsY _ => .ldx
  | .ldyImm _ | .ldyZp _ | .ldyAbs _ | .ldyZpX _ | .ldyAbsX _ => .ldy
  | .staIndX _ | .staZp _ | .staAbs _ | .staIndY _ | .staZpX _ | .staAbsY _ | .staAbsX _ => .sta
  | .stxZp _ | .stxAbs _ | .stxZpY _ => .stx
  | .styZp _ | .styAbs _ | .styZpX _ => .sty
  | .tax => .tax
  | .tay => .tay
  | .tsx => .tsx
  | .txa => .txa
  | .txs => .txs
  | .tya => .tya
  | .adcIndX _ | .adcZp _ | .adcImm _ | .adcAbs _ | .adcIndY _ | .adcZpX _ | .adcAbsY _ | .adcAbsX _ => .adc
  | .sbcIndX _ | .sbcZp _ | .sbcImm _ | .sbcAbs _ | .sbcIndY _ | .sbcZpX _ | .sbcAbsY _ | .sbcAbsX _ | .sbcEB _ => .sbc
  | .andIndX _ | .andZp _ | .andImm _ | .andAbs _ | .andIndY _ | .andZpX _ | .andAbsY _ | .andAbsX _ => .and
  | .oraIndX _ | .oraZp _ | .oraImm _ | .oraAbs _ | .oraIndY _ | .oraZpX _ | .oraAbsY _ | .oraAbsX _ => .ora
  | .eorIndX _ | .eorZp _ | .eorImm _ | .eorAbs _ | .eorIndY _ | .eorZpX _ | .eorAbsY _ | .eorAbsX _ => .eor
  | .bitZp _ | .bitAbs _ => .bit
  | .cmpIndX _ | .cmpZp _ | .cmpImm _ | .cmpAbs _ | .cmpIndY _ | .cmpZpX _ | .cmpAbsY _ | .cmpAbsX _ => .cmp
  | .cpxImm _ | .cpxZp _ | .cpxAbs _ => .cpx
  | .cpyImm _ | .cpyZp _ | .cpyAbs _ => .cpy
  | .incZp _ | .incAbs _ | .incZpX _ | .incAbsX _ => .inc
  | .decZp _ | .decAbs _ | .decZpX _ | .decAbsX _ => .dec
  | .inx => .inx
  | .iny => .iny
  | .dex => .dex
  | .dey => .dey
  | .aslZp _ | .aslAcc | .aslAbs _ | .aslZpX _ | .aslAbsX _ => .asl
  | .lsrZp _ | .lsrAcc | .lsrAbs _ | .lsrZpX _ | .lsrAbsX _ => .lsr
  | .rolZp _ | .rolAcc | .rolAbs _ | .rolZpX _ | .rolAbsX _ => .rol
  | .rorZp _ | .rorAcc | .rorAbs _ | .rorZpX _ | .rorAbsX _ => .ror
  | .bcc _ => .bcc
  | .bcs _ => .bcs
  | .beq _ => .beq
  | .bmi _ => .bmi
  | .bne _ => .bne
  | .bpl _ => .bpl
  | .bvc _ => .bvc
  | .bvs _ => .bvs
  | .jmpAbs _ | .jmpInd _ => .jmp
  | .jsr _ => .jsr
  | .rts => .rts
  | .brk => .brk
  | .rti => .rti
  | .pha => .pha
  | .php => .php
  | .pla => .pla
  | .plp => .plp
  | .clc => .clc
  | .cld => .cld
  | .cli => .cli
  | .clv => .clv
  | .sec => .sec
  | .sed => .sed
  | .sei => .sei
  | .nop | .nop04 _ | .nop0C _ | .nop14 _ | .nop1A | .nop1C _ | .nop34 _ | .nop3A | .nop3C _ | .nop44 _ |
    .nop54 _ | .nop5A | .nop5C _ | .nop64 _ | .nop74 _ | .nop7A | .nop7C _ | .nop80 _ | .nop82 _ | .nop89 _ |
    .nopC2 _ | .nopD4 _ | .nopDA | .nopDC _ | .nopE2 _ | .nopF4 _ | .nopFA | .nopFC _ => .nop
  | .laxIndX _ | .laxZp _ | .laxAbs _ | .laxIndY _ | .laxZpY _ | .laxAbsY _ => .lax
  | .saxIndX _ | .saxZp _ | .saxAbs _ | .saxZpY _ => .sax
  | .dcpIndX _ | .dcpZp _ | .dcpAbs _ | .dcpIndY _ | .dcpZpX _ | .dcpAbsY _ | .dcpAbsX _ => .dcp
  | .isbIndX _ | .isbZp _ | .isbAbs _ | .isbIndY _ | .isbZpX _ | .isbAbsY _ | .isbAbsX _ => .isb
  | .sloIndX _ | .sloZp _ | .sloAbs _ | .sloIndY _ | .sloZpX _ | .sloAbsY _ | .sloAbsX _ => .slo
  | .rlaIndX _ | .rlaZp _ | .rlaAbs _ | .rlaIndY _ | .rlaZpX _ | .rlaAbsY _ | .rlaAbsX _ => .rla
  | .sreIndX _ | .sreZp _ | .sreAbs _ | .sreIndY _ | .sreZpX _ | .sreAbsY _ | .sreAbsX _ => .sre
  | .rraIndX _ | .rraZp _ | .rraAbs _ | .rraIndY _ | .rraZpX _ | .rraAbsY _ | .rraAbsX _ => .rra
  | .unmapped _ => .unmapped

/-- The addressing mode of an instruction with a memory operand, with its operand bytes (R71). -/
def Instr.addrMode : Instr → Option Machine.AddrMode
  | .ldaZp nn | .ldxZp nn | .ldyZp nn | .staZp nn | .stxZp nn | .styZp nn | .adcZp nn | .sbcZp nn | .andZp nn |
    .oraZp nn | .eorZp nn | .bitZp nn | .cmpZp nn | .cpxZp nn | .cpyZp nn | .incZp nn | .decZp nn | .aslZp nn |
    .lsrZp nn | .rolZp nn | .rorZp nn | .nop04 nn | .nop44 nn | .nop64 nn | .laxZp nn | .saxZp nn | .dcpZp nn |
    .isbZp nn | .sloZp nn | .rlaZp nn | .sreZp nn | .rraZp nn => some (.zeroPage nn)
  | .ldaZpX nn | .ldyZpX nn | .staZpX nn | .styZpX nn | .adcZpX nn | .sbcZpX nn | .andZpX nn | .oraZpX nn |
    .eorZpX nn | .cmpZpX nn | .incZpX nn | .decZpX nn | .aslZpX nn | .lsrZpX nn | .rolZpX nn | .rorZpX nn |
    .nop14 nn | .nop34 nn | .nop54 nn | .nop74 nn | .nopD4 nn | .nopF4 nn | .dcpZpX nn | .isbZpX nn |
    .sloZpX nn | .rlaZpX nn | .sreZpX nn | .rraZpX nn => some (.zeroPageX nn)
  | .ldxZpY nn | .stxZpY nn | .laxZpY nn | .saxZpY nn => some (.zeroPageY nn)
  | .ldaAbs addr | .ldxAbs addr | .ldyAbs addr | .staAbs addr | .stxAbs addr | .styAbs addr | .adcAbs addr |
    .sbcAbs addr | .andAbs addr | .oraAbs addr | .eorAbs addr | .bitAbs addr | .cmpAbs addr | .cpxAbs addr |
    .cpyAbs addr | .incAbs addr | .decAbs addr | .aslAbs addr | .lsrAbs addr | .rolAbs addr | .rorAbs addr |
    .nop0C addr | .laxAbs addr | .saxAbs addr | .dcpAbs addr | .isbAbs addr | .sloAbs addr | .rlaAbs addr |
    .sreAbs addr | .rraAbs addr => some (.absolute addr)
  | .ldaAbsX addr | .ldyAbsX addr | .staAbsX addr | .adcAbsX addr | .sbcAbsX addr | .andAbsX addr |
    .oraAbsX addr | .eorAbsX addr | .cmpAbsX addr | .incAbsX addr | .decAbsX addr | .aslAbsX addr |
    .lsrAbsX addr | .rolAbsX addr | .rorAbsX addr | .nop1C addr | .nop3C addr | .nop5C addr | .nop7C addr |
    .nopDC addr | .nopFC addr | .dcpAbsX addr | .isbAbsX addr | .sloAbsX addr | .rlaAbsX addr | .sreAbsX addr |
    .rraAbsX addr => some (.absoluteX addr)
  | .ldaAbsY addr | .ldxAbsY addr | .staAbsY addr | .adcAbsY addr | .sbcAbsY addr | .andAbsY addr |
    .oraAbsY addr | .eorAbsY addr | .cmpAbsY addr | .laxAbsY addr | .dcpAbsY addr | .isbAbsY addr |
    .sloAbsY addr | .rlaAbsY addr | .sreAbsY addr | .rraAbsY addr => some (.absoluteY addr)
  | .ldaIndX nn | .staIndX nn | .adcIndX nn | .sbcIndX nn | .andIndX nn | .oraIndX nn | .eorIndX nn |
    .cmpIndX nn | .laxIndX nn | .saxIndX nn | .dcpIndX nn | .isbIndX nn | .sloIndX nn | .rlaIndX nn |
    .sreIndX nn | .rraIndX nn => some (.indexedIndirect nn)
  | .ldaIndY nn | .staIndY nn | .adcIndY nn | .sbcIndY nn | .andIndY nn | .oraIndY nn | .eorIndY nn |
    .cmpIndY nn | .laxIndY nn | .dcpIndY nn | .isbIndY nn | .sloIndY nn | .rlaIndY nn | .sreIndY nn |
    .rraIndY nn => some (.indirectIndexed nn)
  | .ldaImm _ | .ldxImm _ | .ldyImm _ | .tax | .tay | .tsx | .txa | .txs | .tya | .adcImm _ | .sbcImm _ |
    .andImm _ | .oraImm _ | .eorImm _ | .cmpImm _ | .cpxImm _ | .cpyImm _ | .inx | .iny | .dex | .dey |
    .aslAcc | .lsrAcc | .rolAcc | .rorAcc | .bcc _ | .bcs _ | .beq _ | .bmi _ | .bne _ | .bpl _ | .bvc _ |
    .bvs _ | .jmpAbs _ | .jmpInd _ | .jsr _ | .rts | .brk | .rti | .pha | .php | .pla | .plp | .clc | .cld |
    .cli | .clv | .sec | .sed | .sei | .nop | .nop1A | .nop3A | .nop5A | .nop7A | .nop80 _ | .nop82 _ |
    .nop89 _ | .nopC2 _ | .nopDA | .nopE2 _ | .nopFA | .sbcEB _ | .unmapped _ => none

end Sys2Proof
end

