-- ==== Sys2Proof/Machine/Boot.lean ====
section
/-! DEFINITION. The calls of the host interface beside `step()`: loading program banks (20_memory.md R56 to
R58) and `reset()` (70_reset_and_hazards.md R195 to R197). -/

namespace Sys2Proof.Machine

/-- "immutable fixed-size (16KiB) byte block" (R14). -/
abbrev ProgramBank := Vector Byte 0x4000

/-- `load_bank(offset, bank)` (R56, R58): a verbatim copy, no `write8` and no sink call; refused after the
first step, a third time, or at another offset. -/
def loadBank (offset : Word) (bank : ProgramBank) (s : State) : StepOutcome :=
  if s.started then .refused .bankLoadAfterStart
  else if 2 ≤ s.banksLoaded then .refused .thirdBankLoad
  else if offset = 0x8000#16 ∨ offset = 0xC000#16 then
    .next { s with
      storage := s.storage.writeBytes offset.toNat bank.toList
      banksLoaded := s.banksLoaded + 1 }
  else .refused (.bankOffset offset)

/-- Loading a cartridge of one or two banks (R57): the first at 0x8000, the second at 0xC000; a single bank
at both, "as two independent copies". -/
def loadCartridge (first : ProgramBank) (second : Option ProgramBank) (s : State) : StepOutcome :=
  match loadBank 0x8000#16 first s with
  | .next s1 => loadBank 0xC000#16 (second.getD first) s1
  | .fault r => .fault r
  | .refused r => .refused r

/-- The register file after `reset()`, before `PC` is set (R35, R195); the call has no outputs yet. -/
def State.resetRegisters (s : State) : State :=
  { s with a := 0x00#8, x := 0x00#8, y := 0x00#8, sp := 0x01FD#16, p := 0x24#8, portCalls := [], cycles := 0 }

/-- `reset()` on a block that has not halted (R195, R196): "changes only the register file"; its only bus
access is the vector's `read16`. -/
def State.applyReset (s : State) : State :=
  match s.config.resetMode with
  | .vector =>
    let target := s.resetRegisters.read16 s.config.resetVectorAddr
    { target.2 with pc := target.1 }
  | .debug => { s.resetRegisters with pc := s.config.debugStartPc }

/-- `reset()` (R195); "`reset()` after the fault is not modelled and a model refuses it" (R178, R197). -/
def resetBlock (s : State) : StepOutcome := if s.halted then .refused .resetAfterFault else .next s.applyReset

end Sys2Proof.Machine
end

