-- ==== Sys2Proof/Machine/Trace.lean ====
section
/-! DEFINITION. The optional trace event of a step (40_dispatch_and_addressing.md R83): an output only. -/

namespace Sys2Proof.Machine

/-- "(opcode, operands, resulting registers, cycle cost)" (R83). -/
structure TraceEvent where
  opcode : Byte
  operands : List Byte
  a : Byte
  x : Byte
  y : Byte
  sp : Word
  p : Byte
  pc : Word
  cycles : Nat
deriving DecidableEq, Repr

/-- The event of the step from `s`: one for an `Ok` step that runs an instruction, none for a fault (R83).
The entry of an interrupt runs no instruction and has no event (log entry 10). -/
def State.traceEvent (s : State) : Option TraceEvent :=
  match step s, s.pendingInterrupt, s.beginStep.fetchInstr.bytes with
  | .next t, none, opcode :: operands =>
    some { opcode, operands, a := t.a, x := t.x, y := t.y, sp := t.sp, p := t.p, pc := t.pc, cycles := t.cycles }
  | _, _, _ => none

end Sys2Proof.Machine
end

