-- ==== Sys2Proof/WellFormed.lean ====
section
/-! DEFINITION. The check of an instruction as syntax. Operands are typed by their width, so the one thing
to check is that `unmapped` carries one of the 25 bytes of 30_encoding.md R72. -/

namespace Sys2Proof

/-- The 25 unmapped opcode bytes (R72). -/
def unmappedBytes : List Byte :=
  [0x02#8, 0x0B#8, 0x12#8, 0x22#8, 0x2B#8, 0x32#8, 0x42#8, 0x4B#8, 0x52#8, 0x62#8, 0x6B#8, 0x72#8,
   0x8B#8, 0x92#8, 0x93#8, 0x9B#8, 0x9C#8, 0x9E#8, 0x9F#8, 0xAB#8, 0xB2#8, 0xBB#8, 0xCB#8, 0xD2#8, 0xF2#8]

/-- An instruction of the machine: a mapped row with any operand bytes, or an unmapped byte. -/
def Instr.wellFormed : Instr → Bool
  | .unmapped opcode => unmappedBytes.contains opcode
  | _ => true

end Sys2Proof
end

