-- ==== Sys2Proof/Safety.lean ====
section
/-! DEFINITION. What holds of the machine between steps, and what a safe run is. -/

namespace Sys2Proof

/-- The machine invariant: Storage has its canonical form (R36); `SP` is in page 1 (R31); `P` has bit 5 at 1
and bit 4 at 0 (R26, R27); at most two banks were loaded (R58). -/
structure MachineInv (s : Machine.State) : Prop where
  storage_wf : Machine.Memory.wf s.storage
  sp_in_page_one : hi8 s.sp = 0x01#8
  unused_reads_one : s.flag .u = true
  break_stored_zero : s.flag .b = false
  banks_at_most_two : s.banksLoaded ≤ 2

/-- A run of `k` steps is safe if it is never refused: a fault is the spec's own fatal fault (R175) or the
halt after it (R178). -/
def safeRun (k : Nat) (s : Machine.State) : Bool :=
  match core.run k s with
  | .next _ | .fault _ => true
  | .refused _ => false

end Sys2Proof
end

