-- ==== Sys2Proof/Certificates/Slice0/Obligations.lean ====
section
/-! DEFINITION. The statements for the provers, and the words they are written in (namespace Claims). An
instruction's statement is a list of its rows: the bytes that decode to it, and the whole state `exec` answers
from every state, so that its result, its completion and its frame are said at once. -/

namespace Sys2Proof.Claims

open Sys2Proof.Machine

/-! ### Rows -/

/-- The operand bytes of an addressing mode, in instruction-stream order (R68, R70). -/
def modeBytes : AddrMode → List Byte
  | .zeroPage nn | .zeroPageX nn | .zeroPageY nn | .indexedIndirect nn | .indirectIndexed nn => [nn]
  | .absolute addr | .absoluteX addr | .absoluteY addr => [lo8 addr, hi8 addr]

/-- The operand bytes of an operand form. -/
def operandBytes : Operand → List Byte
  | .accumulator => []
  | .immediate nn => [nn]
  | .memory m => modeBytes m

/-- The bytes decode to `i`, and `i` completes from every state, leaving exactly `post s`. The opcode bytes of the
rows below are those of the map (R71), their base counts those of the cycle table (R204); log entry 18. -/
def Row (bytes : List Byte) (i : Instr) (post : State → State) : Prop :=
  decode bytes = .ok i [] ∧ ∀ s, exec i s = .next (post s)

/-- A row that reads its operand once (R79, R87, R88, R99, R203). `result m t` is the state after the operation on
the operand byte `m`, from the state `t` the read left: an immediate is its own byte and a memory operand is one
`read8` of `EA`, with the +1 of a page crossing. -/
def ReadRow (opcode : Byte) (i : Instr) (o : Operand) (base : Nat) (result : Byte → State → State) : Prop :=
  Row (opcode :: operandBytes o) i fun s =>
    match o with
    | .accumulator => { result s.a s with cycles := base }
    | .immediate nn => { result nn s with cycles := base }
    | .memory m =>
      let read := s.read8 (s.effectiveAddress m)
      { result read.1 read.2 with cycles := base + if s.crossed m then 1 else 0 }

/-- A row that stores a byte at `EA` and does nothing else (R48, R99). -/
def StoreRow (opcode : Byte) (i : Instr) (m : AddrMode) (cycles : State → Nat) (value : State → Byte) : Prop :=
  Row (opcode :: modeBytes m) i fun s =>
    let t := Machine.translate (s.effectiveAddress m)
    { s with
      storage := s.storage.write t.toNat (value s)
      portCalls := s.portCalls ++ if isPeriph t then [.registerWrite t (value s)] else []
      cycles := cycles s }

/-- The count of an indexed STA (R103, R203): fixed, or the other base and class `read`. -/
def staIndexedCycles (base penaltyBase : Nat) (m : AddrMode) (s : State) : Nat :=
  if s.config.storePagePenalty then penaltyBase + (if s.crossed m then 1 else 0) else base

/-- A read-modify-write of memory (R60, R164): one read of `EA`, one write of `new v C` there, then
`result v r t` for the old byte `v`, the new byte `r` and the state `t` after the write. -/
def ModifyRow (opcode : Byte) (i : Instr) (m : AddrMode) (base : Nat) (new : Byte → Bool → Byte)
    (result : Byte → Byte → State → State) : Prop :=
  Row (opcode :: modeBytes m) i fun s =>
    let ea := s.effectiveAddress m
    let v := (s.read8 ea).1
    let r := new v (s.flag .c)
    { result v r ((s.read8 ea).2.write8 ea r) with cycles := base }

/-- A read-modify-write of the accumulator (R87, R99). -/
def AccumulatorModifyRow (opcode : Byte) (i : Instr) (base : Nat) (new : Byte → Bool → Byte)
    (result : Byte → Byte → State → State) : Prop :=
  Row [opcode] i fun s =>
    let r := new s.a (s.flag .c)
    { result s.a r { s with a := r } with cycles := base }

/-- A conditional branch (R136). -/
def BranchRow (opcode : Byte) (i : Byte → Instr) (cond : State → Bool) : Prop :=
  ∀ dd, Row [opcode, dd] (i dd) fun s =>
    let target := BitVec.ofInt 16 (s.pc.toNat + dd.toInt)
    if cond s then
      { s with pc := target, cycles := if target.toNat / 256 = s.pc.toNat / 256 then 3 else 4 }
    else { s with cycles := 2 }

/-! ### Results, in the spec's terms -/

/-- `P` with `N` and `Z` from a byte and the other flags of `t` (R9, R23, R29). -/
def nz (v : Byte) (t : State) : Byte :=
  statusByte v.msb (t.flag .v) (t.flag .d) (t.flag .i) (v == 0#8) (t.flag .c)

/-- `P` with `N` and `Z` from a byte, this `C`, and the other flags of `t`. -/
def nzc (v : Byte) (c : Bool) (t : State) : Byte :=
  statusByte v.msb (t.flag .v) (t.flag .d) (t.flag .i) (v == 0#8) c

def putA (v : Byte) (t : State) : State := { t with a := v, p := nz v t }
def putX (v : Byte) (t : State) : State := { t with x := v, p := nz v t }
def putY (v : Byte) (t : State) : State := { t with y := v, p := nz v t }

/-- `~(a^b) & (a^result) & 0x80` (R28, R112). -/
def overflowRule (a b r : Byte) : Bool := (~~~(a ^^^ b) &&& (a ^^^ r)).msb

/-- ADC (R112, R114), on integers. -/
def adcResult (m : Byte) (t : State) : State :=
  let sum := t.a.toNat + m.toNat + (t.flag .c).toNat
  let r := BitVec.ofNat 8 sum
  { t with
    a := r
    p := statusByte r.msb (overflowRule t.a m r) (t.flag .d) (t.flag .i) (r == 0#8) (decide (255 < sum)) }

/-- SBC (R115), on integers: the borrow is `1 - C`; `C` is 1 iff `A >= M + (1 - C)`; `V` with `b = ~M`. -/
def sbcResult (m : Byte) (t : State) : State :=
  let borrow := 1 - (t.flag .c).toNat
  let r := BitVec.ofInt 8 (t.a.toNat - m.toNat - borrow)
  { t with
    a := r
    p := statusByte r.msb (overflowRule t.a (~~~m) r) (t.flag .d) (t.flag .i) (r == 0#8)
      (decide (m.toNat + borrow ≤ t.a.toNat)) }

/-- Compare (R113), on integers. -/
def compareP (r m : Byte) (t : State) : Byte :=
  statusByte (BitVec.ofInt 8 (r.toNat - m.toNat)).msb (t.flag .v) (t.flag .d) (t.flag .i) (r == m)
    (decide (m.toNat ≤ r.toNat))

def compareA (m : Byte) (t : State) : State := { t with p := compareP t.a m t }
def compareX (m : Byte) (t : State) : State := { t with p := compareP t.x m t }
def compareY (m : Byte) (t : State) : State := { t with p := compareP t.y m t }

/-- BIT (R119). -/
def bitResult (m : Byte) (t : State) : State :=
  { t with
    p := statusByte (m.getLsbD 7) (m.getLsbD 6) (t.flag .d) (t.flag .i) (t.a &&& m == 0#8) (t.flag .c) }

/-! The new byte of each read-modify-write, on integers. -/

def incremented (v : Byte) (_ : Bool) : Byte := BitVec.ofNat 8 (v.toNat + 1)
def decremented (v : Byte) (_ : Bool) : Byte := BitVec.ofInt 8 (v.toNat - 1)
def shiftedLeft (v : Byte) (_ : Bool) : Byte := BitVec.ofNat 8 (2 * v.toNat)
def shiftedRight (v : Byte) (_ : Bool) : Byte := BitVec.ofNat 8 (v.toNat / 2)
def rotatedLeft (v : Byte) (c : Bool) : Byte := BitVec.ofNat 8 (2 * v.toNat + c.toNat)
def rotatedRight (v : Byte) (c : Bool) : Byte := BitVec.ofNat 8 (v.toNat / 2 + 128 * c.toNat)

/-- `N` and `Z` from the new byte (R123, R124). -/
def stepFlags (_ r : Byte) (t : State) : State := { t with p := nz r t }

/-- `N` and `Z` from the new byte, `C` the old bit 7 (R129, R131). -/
def leftFlags (v r : Byte) (t : State) : State := { t with p := nzc r (decide (128 ≤ v.toNat)) t }

/-- `N` and `Z` from the new byte, `C` the old bit 0 (R130, R132). -/
def rightFlags (v r : Byte) (t : State) : State := { t with p := nzc r (v.toNat % 2 == 1) t }

/-! The second micro-operations of the undocumented compositions (R169 to R174). -/

def thenCompare (_ r : Byte) (t : State) : State := compareA r t
def thenSubtract (_ r : Byte) (t : State) : State := sbcResult r t
def thenOr (v r : Byte) (t : State) : State :=
  { t with a := t.a ||| r, p := nzc (t.a ||| r) (decide (128 ≤ v.toNat)) t }
def thenAnd (v r : Byte) (t : State) : State :=
  { t with a := t.a &&& r, p := nzc (t.a &&& r) (decide (128 ≤ v.toNat)) t }
def thenXor (v r : Byte) (t : State) : State :=
  { t with a := t.a ^^^ r, p := nzc (t.a ^^^ r) (v.toNat % 2 == 1) t }

/-- RRA (R174): the carry-in of the add is the bit the rotate shifted out. -/
def thenAdd (v r : Byte) (t : State) : State :=
  let sum := t.a.toNat + r.toNat + v.toNat % 2
  let w := BitVec.ofNat 8 sum
  { t with
    a := w
    p := statusByte w.msb (overflowRule t.a r w) (t.flag .d) (t.flag .i) (w == 0#8) (decide (255 < sum)) }

/-! ### Whole-machine words -/

/-- The stack address with this low byte (R31). -/
def pageOne (lo : Byte) : Word := word 0x01#8 lo

/-- Where `n` pushes from `s` store, in order (R32). -/
def pushAddresses (s : State) (n : Nat) : List Word :=
  [s.sp, pageOne (lo8 (s.sp - 1)), pageOne (lo8 (s.sp - 2))].take n

/-- The addresses an instruction stores to, with the functions its meaning uses. -/
def storedAddresses (i : Instr) (s : State) : List Word :=
  match i.mnemonic with
  | .sta | .stx | .sty | .sax | .inc | .dec | .asl | .lsr | .rol | .ror | .slo | .rla | .sre | .rra | .dcp | .isb =>
    (i.addrMode.map s.effectiveAddress).toList
  | .pha | .php => pushAddresses s 1
  | .jsr => pushAddresses s 2
  | .brk => pushAddresses s 3
  | _ => []

/-- The mnemonics that read-modify-write their operand (R203). -/
def modifyMnemonics : List Mnemonic := [.asl, .lsr, .rol, .ror, .inc, .dec, .slo, .rla, .sre, .rra, .dcp, .isb]

/-- The mnemonics whose instructions set `PC` themselves (R80): branches, jumps, call, returns, BRK. -/
def controlMnemonics : List Mnemonic :=
  [.bcc, .bcs, .beq, .bmi, .bne, .bpl, .bvc, .bvs, .jmp, .jsr, .rts, .brk, .rti]

/-- A step begun: its outputs are empty (R76, R82), and a step has been called (R58). -/
def begun (s : State) : State := { s with started := true, portCalls := [], cycles := 0 }

/-- The next `n` bytes of the instruction stream, and the state their fetches leave (R75): each is one `read8` at
`PC`, with `PC` advanced by one. -/
def streamBytes : Nat → State → List Byte × State
  | 0, s => ([], s)
  | n + 1, s =>
    let b := ({ s with pc := s.pc + 1 } : State).read8 s.pc
    let bs := streamBytes n b.2
    (b.1 :: bs.1, bs.2)

/-- The next step of `s` fetches an instruction: no halt, no interrupt to take (R178, R185). -/
def Fetches (s : State) : Prop := s.halted = false ∧ s.pendingInterrupt = none

/-- The bytes stand in Storage where the instruction stream is fetched from address `a`, none of them at a
peripheral offset (R75). -/
def CodeAt (s : State) (a : Word) (bytes : List Byte) : Prop :=
  ∀ k, (h : k < bytes.length) →
    isPeriph (Machine.translate (a + BitVec.ofNat 16 k)) = false ∧
      s.byteAt (Machine.translate (a + BitVec.ofNat 16 k)).toNat = bytes[k]

/-- The register file and Storage of two states are the same (R177). -/
def SameRegistersAndStorage (s t : State) : Prop :=
  t.a = s.a ∧ t.x = s.x ∧ t.y = s.y ∧ t.sp = s.sp ∧ t.p = s.p ∧ t.pc = s.pc ∧ t.storage = s.storage

/-- Everything but Storage, the bank count and the port is the same. -/
def SameOutsideMemory (s t : State) : Prop :=
  t.a = s.a ∧ t.x = s.x ∧ t.y = s.y ∧ t.sp = s.sp ∧ t.p = s.p ∧ t.pc = s.pc ∧ t.halted = s.halted ∧
    t.config = s.config ∧ t.nmiPending = s.nmiPending ∧ t.irqLine = s.irqLine ∧ t.started = s.started ∧
    t.cycles = s.cycles

/-- Taking the interrupt `k` from `s` (R186): `PC` with no offset, then the status byte with bit 4 clear. -/
def InterruptEntry (s : State) (vector : Nat) (pending : Bool) (t : State) : Prop :=
  let u := ((s.push (hi8 s.pc)).push (lo8 s.pc)).push ((s.p &&& 0xEF#8) ||| 0x20#8)
  t = { u with
    p := statusByte (s.flag .n) (s.flag .v) (s.flag .d) true (s.flag .z) (s.flag .c)
    pc := word (u.byteAt (vector + 1)) (u.byteAt vector)
    nmiPending := pending
    cycles := 7 }

end Sys2Proof.Claims

open Sys2Proof Sys2Proof.Machine Sys2Proof.Claims


/-- Words written out from the opcode map decode to their instructions; 25 bytes have no handler (30_encoding.md
R66 R70 R71 R72, log entry 20). Rests on the decisions D1, D35 of 92_eei_decisions.md and on what the spec
gives from general knowledge (R70, R71, R72). -/
def Obligations.WrittenWordsDecode : Prop :=
  decode [0xA9#8, 0x05#8] = .ok (.ldaImm 0x05#8) [] ∧
    decode [0x8D#8, 0x08#8, 0x20#8] = .ok (.staAbs 0x2008#16) [] ∧
    decode [0x6C#8, 0xFF#8, 0x02#8] = .ok (.jmpInd 0x02FF#16) [] ∧
    decode [0xD0#8, 0xFA#8] = .ok (.bne 0xFA#8) [] ∧
    decode [0x0A#8] = .ok .aslAcc [] ∧
    decode [0x91#8, 0x10#8] = .ok (.staIndY 0x10#8) [] ∧
    decode [0x00#8] = .ok .brk [] ∧
    decode [0xEB#8, 0x03#8] = .ok (.sbcEB 0x03#8) [] ∧
    decode [0x02#8] = .ok (.unmapped 0x02#8) [] ∧
    (∀ op : Byte, hasHandler op = !unmappedBytes.contains op) ∧
    unmappedBytes =
      [0x02#8, 0x0B#8, 0x12#8, 0x22#8, 0x2B#8, 0x32#8, 0x42#8, 0x4B#8, 0x52#8, 0x62#8, 0x6B#8, 0x72#8, 0x8B#8,
        0x92#8, 0x93#8, 0x9B#8, 0x9C#8, 0x9E#8, 0x9F#8, 0xAB#8, 0xB2#8, 0xBB#8, 0xCB#8, 0xD2#8, 0xF2#8]

/-- Decoding the encoding of a well-formed instruction gives it back (30_encoding.md R67 R68 R70 R71, log entry
20). Rests on the decision D35 of 92_eei_decisions.md and on what the spec gives from general knowledge
(R68, R70, R71). -/
def Obligations.DecodeEncodeRoundTrip : Prop :=
  ∀ (i : Instr) (rest : List Byte), i.wellFormed = true → decode (encode i ++ rest) = .ok i rest

/-- Whatever decodes is the encoding of what it decodes to, and is well formed (30_encoding.md R67 R71 R72, log
entry 20). Rests on the decisions D1, D35 of 92_eei_decisions.md and on what the spec gives from general
knowledge (R71, R72). -/
def Obligations.DecodedBytesAreTheEncoding : Prop :=
  ∀ (bytes rest : List Byte) (i : Instr), decode bytes = .ok i rest → encode i ++ rest = bytes ∧ i.wellFormed = true

/-- A step runs the instruction whose bytes stand at PC (40_dispatch_and_addressing.md R75 R76 R77, 10_state.md
R20, log entry 3, log entry 6, log entry 8). Rests on the decisions D5, D17 of 92_eei_decisions.md. What
begins a step (outputs emptied, the step mark) is log entries 3 and 8, the opcodes taken out of MAPPED_SET
log entry 6. -/
def Obligations.StepRunsTheDecodedInstruction : Prop :=
  ∀ (s : State) (i : Instr), Fetches s → i.wellFormed = true → CodeAt s s.pc (encode i) →
    (∀ op ∈ (encode i).head?, s.config.removed.contains op = false) →
    step s = exec i { begun s with pc := s.pc + BitVec.ofNat 16 (encode i).length }

/-- A step is exec of what the bytes its bus reads give decode to, wherever PC is (40_dispatch_and_addressing.md
R75 R76, 20_memory.md R60 R63, log entry 3, log entry 6, log entry 8). Rests on the decisions D5, D17, D21,
D22 of 92_eei_decisions.md and on the spec's own inference (R63). What begins a step (outputs emptied, the
step mark) is log entries 3 and 8, the opcodes taken out of MAPPED_SET log entry 6. -/
def Obligations.StepFetchesThroughTheBus : Prop :=
  ∀ (s : State) (n : Nat) (i : Instr), Fetches s →
    let stream := streamBytes n (begun s)
    decode stream.1 = .ok i [] → (∀ op ∈ stream.1.head?, s.config.removed.contains op = false) →
    step s = exec i stream.2

/-- An opcode byte outside MAPPED_SET raises the fatal fault and changes nothing (60_exceptions.md R177, log
entry 9, log entry 3, log entry 6). Rests on the decision D17 of 92_eei_decisions.md. The state the fault
carries is log entry 9. -/
def Obligations.UnmappedOpcodeIsFatalAndChangesNothing : Prop :=
  ∀ s : State, Fetches s →
    let op := ({ begun s with pc := s.pc + 1 } : State).read8 s.pc
    hasHandler op.1 = false ∨ s.config.removed.contains op.1 = true →
    ∃ left : State,
      step s = .fault (.unmappedOpcode op.1 s.pc left) ∧
        SameRegistersAndStorage s left ∧ left.halted = true ∧ left.cycles = 0 ∧ left.portCalls = op.2.portCalls ∧
        (left.portCalls = [] ∨ ∃ v, isPeriph (Machine.translate s.pc) = true ∧
          left.portCalls = [.peripheralRead (Machine.translate s.pc) v])

/-- The meaning of an unmapped byte is the fatal fault, and nothing else stops (60_exceptions.md R176,
40_dispatch_and_addressing.md R81, log entry 9, log entry 16, log entry 20). Rests on the decision D17 of
92_eei_decisions.md. The state the fault carries is log entry 9, the address PC minus 1 log entry 16. -/
def Obligations.UnmappedInstructionStops : Prop :=
  (∀ (op : Byte) (s : State), exec (.unmapped op) s =
      .fault (.unmappedOpcode op (s.pc - 1) { s with pc := s.pc - 1, halted := true })) ∧
    ∀ (i : Instr) (s : State), i.mnemonic ≠ .unmapped → ∃ t, exec i s = .next t

/-- After the fault the block has no step and reset is refused (60_exceptions.md R178, log entry 9). Rests on
the decision D30 of 92_eei_decisions.md. -/
def Obligations.HaltedBlockHasNoFurtherOutcome : Prop :=
  (∀ s : State, s.halted = true → step s = .fault .halted ∧ resetBlock s = .refused .resetAfterFault) ∧
    ∀ (s left : State) (op : Byte) (a : Word), step s = .fault (.unmappedOpcode op a left) → left.halted = true

/-- A step takes at least 2 cycles, and off the control transfers PC advances by the length
(40_dispatch_and_addressing.md R80). Rests on the spec's own inference (R80). -/
def Obligations.EveryMappedStepTakesTwoCyclesAndAdvances : Prop :=
  ∀ s t : State, Fetches s → step s = .next t →
    2 ≤ t.cycles ∧ ∀ (n : Nat) (i : Instr), decode (streamBytes n (begun s)).1 = .ok i [] →
      i.mnemonic ∉ controlMnemonics → t.pc = s.pc + BitVec.ofNat 16 (encode i).length

/-- The state withFetchWord gives runs the instruction of the table word next (70_reset_and_hazards.md R198, log
entry 5, log entry 3, log entry 6, log entry 8). Rests on the spec's own inference (R198). Where the word is
placed is the model's choice (log entry 5, DESIGN CHOICE). -/
def Obligations.PlacedWordIsRun : Prop :=
  ∀ (s : State) (nbits w : Nat) (i : Instr), decodeTableWord nbits w = some i →
    (∀ op ∈ (encode i).head?, s.config.removed.contains op = false) →
    step (s.withFetchWord nbits w) =
      exec i { begun (s.withFetchWord nbits w) with
        pc := programBase + BitVec.ofNat 16 (encode i).length }

/-- The state after reset meets the machine invariant (10_state.md R26 R27 R31 R35 R36, 20_memory.md R58, log
entry 1, log entry 4). Rests on the decisions D2, D3, D19, D23 of 92_eei_decisions.md. That State.reset has
no bank loaded is the model's choice (log entry 4, DESIGN CHOICE), and that its Storage lists nothing is the
form of log entry 1. -/
def Obligations.ResetMeetsTheInvariant : Prop :=
  MachineInv State.reset

/-- Every step keeps the machine invariant (10_state.md R26 R27 R31 R36, 20_memory.md R58, log entry 1, log
entry 9, log entry 13). Rests on the decisions D19, D23 of 92_eei_decisions.md. The canonical form of
Storage is the model's (log entry 1, DESIGN CHOICE), as is the state a fault carries (log entry 9). -/
def Obligations.StepKeepsTheInvariant : Prop :=
  ∀ s : State, MachineInv s →
    (∀ t, step s = .next t → MachineInv t) ∧ ∀ op a left, step s = .fault (.unmappedOpcode op a left) → MachineInv left

/-- Loading banks, reset and the interrupt inputs keep the machine invariant (20_memory.md R56 R57 R58,
70_reset_and_hazards.md R195 R196, 60_exceptions.md R183 R184, 10_state.md R26 R27 R31 R36, log entry 1, log
entry 12, log entry 21). Rests on the decisions D2, D3, D16, D19, D23, D32 of 92_eei_decisions.md and on
what the spec gives from general knowledge (R184). That the interrupt inputs are the host calls assertNmi
and setIrq is the model's reading of R183 and R184 (log entry 12, DEDUCED); the canonical form of Storage is
log entry 1. -/
def Obligations.HostCallsKeepTheInvariant : Prop :=
  ∀ s : State, MachineInv s →
    (∀ o b t, loadBank o b s = .next t → MachineInv t) ∧ (∀ b c t, loadCartridge b c s = .next t → MachineInv t) ∧
      (∀ t, resetBlock s = .next t → MachineInv t) ∧ MachineInv s.assertNmi ∧ ∀ level, MachineInv (s.setIrq level)

/-- reset() loads the register values and takes PC from the vector or the debug address (10_state.md R35,
70_reset_and_hazards.md R195, log entry 5). Rests on the decisions D2, D3 of 92_eei_decisions.md. That
State.reset takes PC from the free bytes at the vector is log entry 5. -/
def Obligations.ResetLoadsTheRegisterFile : Prop :=
  (∀ s : State, s.halted = false → ∃ t, resetBlock s = .next t ∧
      t.a = 0x00#8 ∧ t.x = 0x00#8 ∧ t.y = 0x00#8 ∧ t.sp = 0x01FD#16 ∧ t.p = 0x24#8 ∧
      t.pc = match s.config.resetMode with
        | .vector => (s.read16 s.config.resetVectorAddr).1
        | .debug => s.config.debugStartPc) ∧
    State.reset.a = 0x00#8 ∧ State.reset.x = 0x00#8 ∧ State.reset.y = 0x00#8 ∧ State.reset.sp = 0x01FD#16 ∧
    State.reset.p = 0x24#8 ∧ State.reset.pc = word (State.reset.byteAt 0xFFFD) (State.reset.byteAt 0xFFFC)

/-- reset() makes only the vector's reads, calls no sink, returns no count and leaves Storage and all else alone
(70_reset_and_hazards.md R196, log entry 8, log entry 21, log entry 3). Rests on the decision D32 of
92_eei_decisions.md. That the interrupt inputs, the bank count and the step mark are left alone is what the
model infers from R196 (log entries 8, 21). -/
def Obligations.ResetDoesNotChangeStorage : Prop :=
  ∀ s t : State, resetBlock s = .next t →
    t.storage = s.storage ∧ t.halted = s.halted ∧ t.banksLoaded = s.banksLoaded ∧ t.config = s.config ∧
      t.nmiPending = s.nmiPending ∧ t.irqLine = s.irqLine ∧ t.started = s.started ∧ t.cycles = 0 ∧
      (match s.config.resetMode with
        | .vector =>
          let vector := (({ s with portCalls := [] } : State).read16 s.config.resetVectorAddr).2
          t.portCalls = vector.portCalls ∧ t.periphReads = vector.periphReads
        | .debug => t.portCalls = [] ∧ t.periphReads = s.periphReads) ∧
      ∀ o v, PortCall.registerWrite o v ∉ t.portCalls

/-- load_bank copies the bank verbatim and changes nothing else (R56). -/
def Obligations.LoadBankCopiesVerbatim : Prop :=
  ∀ (o : Word) (bank : ProgramBank) (s t : State), loadBank o bank s = .next t →
    (o = 0x8000#16 ∨ o = 0xC000#16) ∧
      (∀ i, (h : i < 0x4000) → t.byteAt (o.toNat + i) = bank[i]) ∧
      (∀ k, (k < o.toNat ∨ o.toNat + 0x4000 ≤ k) → t.byteAt k = s.byteAt k) ∧
      t.banksLoaded = s.banksLoaded + 1 ∧ t.portCalls = s.portCalls ∧ t.periphReads = s.periphReads ∧
      SameOutsideMemory s t

/-- load_bank is accepted twice before the first step, at the two offsets, and refused otherwise (20_memory.md
R58, log entry 8, log entry 17, log entry 9). Rests on the decision D23 of 92_eei_decisions.md. That a
second load at the offset of the first is accepted is the model's choice (log entry 17, DESIGN CHOICE), as
is what counts as a step (log entry 8). -/
def Obligations.LoadBankRefusals : Prop :=
  ∀ (o : Word) (bank : ProgramBank) (s : State),
    (s.started = false → s.banksLoaded < 2 → (o = 0x8000#16 ∨ o = 0xC000#16) → ∃ t, loadBank o bank s = .next t) ∧
      (s.started = false → 2 ≤ s.banksLoaded → loadBank o bank s = .refused .thirdBankLoad) ∧
      (s.started = false → s.banksLoaded < 2 → o ≠ 0x8000#16 → o ≠ 0xC000#16 →
        loadBank o bank s = .refused (.bankOffset o)) ∧
      (s.started = true → loadBank o bank s = .refused .bankLoadAfterStart) ∧
      (∀ t, step s = .next t → loadBank o bank t = .refused .bankLoadAfterStart) ∧
      ∀ op a left, step s = .fault (.unmappedOpcode op a left) → loadBank o bank left = .refused .bankLoadAfterStart

/-- One bank is mapped into both offsets as independent copies, two in order (20_memory.md R57). Rests on the
decision D23 of 92_eei_decisions.md. -/
def Obligations.CartridgeBanksAreLoaded : Prop :=
  ∀ (first : ProgramBank) (second : Option ProgramBank) (s : State), s.started = false → s.banksLoaded = 0 →
    ∃ t, loadCartridge first second s = .next t ∧
      (∀ i, (h : i < 0x4000) → t.byteAt (0x8000 + i) = first[i] ∧ t.byteAt (0xC000 + i) = (second.getD first)[i]) ∧
      ∀ (a : Word) (v : Byte) (i : Nat), 0x8000 ≤ a.toNat → a.toNat < 0xC000 → (h : i < 0x4000) →
        (t.write8 a v).byteAt (0xC000 + i) = (second.getD first)[i]

/-- translate mirrors RAM every 0x800 and the window every 8, and is the identity above (20_memory.md R43).
Rests on the decision D19 of 92_eei_decisions.md. -/
def Obligations.TranslationMirrorsTheRanges : Prop :=
  ∀ a : Word,
    (Machine.translate a).toNat =
        (if a.toNat ≤ 0x1FFF then a.toNat % 0x800
         else if a.toNat ≤ 0x3FFF then 0x2000 + a.toNat % 8 else a.toNat) ∧
      Machine.translate (Machine.translate a) = Machine.translate a

/-- RAM mirrors read alike, and a read outside PERIPH returns the last byte left there with no effect
(20_memory.md R46 R55, log entry 1). Rests on the decision D4 of 92_eei_decisions.md and on the spec's own
inference (R46). -/
def Obligations.ReadsOutsidePeriphHaveNoEffect : Prop :=
  ∀ (s : State) (a : Word),
    (a.toNat ≤ 0x1FFF → s.read8 a = s.read8 (a &&& 0x07FF#16)) ∧
      (isPeriph (Machine.translate a) = false →
        s.read8 a = (s.byteAt (Machine.translate a).toNat, s) ∧
          (s.storage.lookup (Machine.translate a).toNat = none → (s.read8 a).1 = Config.freeInitMem (Machine.translate a).toNat) ∧
          ∀ (b : Word) (v : Byte), Machine.translate b = Machine.translate a → (s.write8 b v).read8 a = (v, s.write8 b v))

/-- A read of a PERIPH offset is one PeripheralRead, unless the debug shim answers (20_memory.md R45 R51, log
entry 2, log entry 23). Rests on the decision D4 of 92_eei_decisions.md. -/
def Obligations.PeripheralReadsAreDelegated : Prop :=
  (∀ t : Word, isPeriph t = true ↔ (0x2000 ≤ t.toNat ∧ t.toNat ≤ 0x2007) ∨ t.toNat = 0x4014) ∧
    ∀ (s : State) (a : Word), isPeriph (Machine.translate a) = true →
    (s.config.resetMode = .debug ∧ Machine.translate a = s.config.statusShimAddr →
        s.read8 a = (s.config.statusShimValue, s)) ∧
      (¬(s.config.resetMode = .debug ∧ Machine.translate a = s.config.statusShimAddr) →
        s.read8 a = (Config.freePeripheralRead (Machine.translate a) s.periphReads,
          { s with
            periphReads := s.periphReads + 1
            portCalls := s.portCalls ++
              [.peripheralRead (Machine.translate a) (Config.freePeripheralRead (Machine.translate a) s.periphReads)] }))

/-- write8 updates Storage always and calls the sink exactly once at a peripheral offset (R48). -/
def Obligations.WritesUpdateStorageAndCallTheSinkOnce : Prop :=
  ∀ (s : State) (a : Word) (v : Byte),
    (s.write8 a v).byteAt (Machine.translate a).toNat = v ∧
      (∀ k, k ≠ (Machine.translate a).toNat → (s.write8 a v).byteAt k = s.byteAt k) ∧
      (s.write8 a v).portCalls =
        s.portCalls ++ (if isPeriph (Machine.translate a) then [.registerWrite (Machine.translate a) v] else []) ∧
      (s.write8 a v).banksLoaded = s.banksLoaded ∧ (s.write8 a v).periphReads = s.periphReads ∧
      SameOutsideMemory s (s.write8 a v)

/-- Writes at a window address and at its mirror call the sink with the identical canonical offset (20_memory.md
R50). Rests on the decision D15 of 92_eei_decisions.md. -/
def Obligations.WindowMirrorsCallTheSameRegister : Prop :=
  ∀ (s : State) (a : Word) (v : Byte), 0x2000 ≤ a.toNat → a.toNat ≤ 0x3FFF →
    let canonical := BitVec.ofNat 16 (0x2000 + a.toNat % 8)
    s.write8 a v = s.write8 canonical v ∧
      (s.write8 a v).portCalls = s.portCalls ++ [.registerWrite canonical v]

/-- read16 is little-endian and does not translate the second address again (20_memory.md R47). Rests on the
decisions D8, D9, D34 of 92_eei_decisions.md. -/
def Obligations.WordReadsTakeTheHighByteUntranslated : Prop :=
  ∀ (s : State) (a : Word),
    (s.config.read16Retranslate = false →
        s.read16 a = (word ((s.read8 a).2.byteAt (((Machine.translate a).toNat + 1) % 0x10000)) (s.read8 a).1, (s.read8 a).2)) ∧
      (s.config.read16Retranslate = true →
        s.read16 a = (word ((s.read8 a).2.read8 (a + 1)).1 (s.read8 a).1, ((s.read8 a).2.read8 (a + 1)).2))

/-- A store is fetched by the next fetch at the same translated address (20_memory.md R63,
70_reset_and_hazards.md R201). Rests on the spec's own inference (R63, R201). -/
def Obligations.StoresAreSeenByTheNextFetch : Prop :=
  ∀ (s : State) (a : Word) (v : Byte), Machine.translate s.pc = Machine.translate a → isPeriph (Machine.translate a) = false →
    streamBytes 1 (s.write8 a v) = ([v], { s.write8 a v with pc := s.pc + 1 })

/-- A push stores at SP and then decrements SP inside page 1 (10_state.md R31 R32). Rests on what the spec gives
from general knowledge (R32). -/
def Obligations.PushStoresThenDecrementsInPageOne : Prop :=
  ∀ (s : State) (v : Byte), s.push v = { s.write8 s.sp v with sp := word 0x01#8 (lo8 (s.sp - 1)) }

/-- A pull increments SP inside page 1 and reads there; it undoes a push (10_state.md R31 R33). Rests on what
the spec gives from general knowledge (R33). -/
def Obligations.PullIncrementsThenReadsAndUndoesPush : Prop :=
  ∀ (s : State) (v : Byte),
    s.pull = ({ s with sp := word 0x01#8 (lo8 (s.sp + 1)) } : State).read8 (word 0x01#8 (lo8 (s.sp + 1))) ∧
      (hi8 s.sp = 0x01#8 → (s.push v).pull.1 = v ∧ (s.push v).pull.2 = { s.push v with sp := s.sp }) ∧
      hi8 (s.push v).sp = 0x01#8 ∧ hi8 s.pull.2.sp = 0x01#8

/-- Zero-page indexing wraps in page 0, absolute indexing modulo 65536, crossing on a low-byte carry
(40_dispatch_and_addressing.md R89 R90 R91 R92 R93 R94). Rests on the decision D6 of 92_eei_decisions.md and
on what the spec gives from general knowledge (R91) and on the spec's own inference (R94). -/
def Obligations.DirectAddressesWrapAsTheirModesSay : Prop :=
  ∀ (s : State) (nn : Byte) (addr : Word),
    (s.effectiveAddress (.zeroPage nn)).toNat = nn.toNat ∧
      (s.effectiveAddress (.zeroPageX nn)).toNat = (nn.toNat + s.x.toNat) % 256 ∧
      (s.effectiveAddress (.zeroPageY nn)).toNat = (nn.toNat + s.y.toNat) % 256 ∧
      s.effectiveAddress (.absolute addr) = addr ∧
      (s.effectiveAddress (.absoluteX addr)).toNat = (addr.toNat + s.x.toNat) % 65536 ∧
      (s.effectiveAddress (.absoluteY addr)).toNat = (addr.toNat + s.y.toNat) % 65536 ∧
      (s.crossed (.absoluteX addr) = true ↔ 255 < addr.toNat % 256 + s.x.toNat) ∧
      (s.crossed (.absoluteY addr) = true ↔ 255 < addr.toNat % 256 + s.y.toNat) ∧
      s.crossed (.zeroPage nn) = false ∧ s.crossed (.zeroPageX nn) = false ∧ s.crossed (.zeroPageY nn) = false ∧
      s.crossed (.absolute addr) = false

/-- (zp,X) and (zp),Y take both pointer bytes inside page 0, and have no effect on the bus
(40_dispatch_and_addressing.md R95 R96, 20_memory.md R46, log entry 15). Rests on the decisions D6, D7 of
92_eei_decisions.md and on the spec's own inference (R46). That the pointer reads have no effect follows
from R46 (log entry 15, DEDUCED). -/
def Obligations.IndirectPointersStayInPageZero : Prop :=
  ∀ (s : State) (nn : Byte),
    let p := (nn.toNat + s.x.toNat) % 256
    (s.effectiveAddress (.indexedIndirect nn)).toNat = 256 * (s.byteAt ((p + 1) % 256)).toNat + (s.byteAt p).toNat ∧
      s.crossed (.indexedIndirect nn) = false ∧
      (s.effectiveAddress (.indirectIndexed nn)).toNat =
        (256 * (s.byteAt ((nn.toNat + 1) % 256)).toNat + (s.byteAt nn.toNat).toNat + s.y.toNat) % 65536 ∧
      (s.crossed (.indirectIndexed nn) = true ↔ 255 < (s.byteAt nn.toNat).toNat + s.y.toNat) ∧
      ∀ b : Byte, s.read8 (zext16 b) = (s.byteAt b.toNat, s)

/-- LDA, LDX, LDY: every row loads its operand and recomputes N and Z (41_load_store_transfer.md R100 R101 R102,
40_dispatch_and_addressing.md R79, 70_reset_and_hazards.md R204). Rests on the decisions D20, D33 of
92_eei_decisions.md and on what the spec gives from general knowledge (R204). -/
def Obligations.LoadsSetTheRegisterAndFlags : Prop :=
  ∀ (nn : Byte) (addr : Word),
    ReadRow 0xA1#8 (.ldaIndX nn) (.memory (.indexedIndirect nn)) 6 putA ∧
    ReadRow 0xA5#8 (.ldaZp nn) (.memory (.zeroPage nn)) 3 putA ∧
    ReadRow 0xA9#8 (.ldaImm nn) (.immediate nn) 2 putA ∧
    ReadRow 0xAD#8 (.ldaAbs addr) (.memory (.absolute addr)) 4 putA ∧
    ReadRow 0xB1#8 (.ldaIndY nn) (.memory (.indirectIndexed nn)) 5 putA ∧
    ReadRow 0xB5#8 (.ldaZpX nn) (.memory (.zeroPageX nn)) 4 putA ∧
    ReadRow 0xB9#8 (.ldaAbsY addr) (.memory (.absoluteY addr)) 4 putA ∧
    ReadRow 0xBD#8 (.ldaAbsX addr) (.memory (.absoluteX addr)) 4 putA ∧
    ReadRow 0xA2#8 (.ldxImm nn) (.immediate nn) 2 putX ∧
    ReadRow 0xA6#8 (.ldxZp nn) (.memory (.zeroPage nn)) 3 putX ∧
    ReadRow 0xAE#8 (.ldxAbs addr) (.memory (.absolute addr)) 4 putX ∧
    ReadRow 0xB6#8 (.ldxZpY nn) (.memory (.zeroPageY nn)) 4 putX ∧
    ReadRow 0xBE#8 (.ldxAbsY addr) (.memory (.absoluteY addr)) 4 putX ∧
    ReadRow 0xA0#8 (.ldyImm nn) (.immediate nn) 2 putY ∧
    ReadRow 0xA4#8 (.ldyZp nn) (.memory (.zeroPage nn)) 3 putY ∧
    ReadRow 0xAC#8 (.ldyAbs addr) (.memory (.absolute addr)) 4 putY ∧
    ReadRow 0xB4#8 (.ldyZpX nn) (.memory (.zeroPageX nn)) 4 putY ∧
    ReadRow 0xBC#8 (.ldyAbsX addr) (.memory (.absoluteX addr)) 4 putY

/-- STA, STX, STY, SAX: every row stores at EA, reads nothing and writes no flag (41_load_store_transfer.md R103
R104 R105, 44_undocumented.md R167, 70_reset_and_hazards.md R203, log entry 22). Rests on the decisions D1,
D20 of 92_eei_decisions.md and on what the spec gives from general knowledge (R167). -/
def Obligations.StoresWriteTheRegisterAtTheEffectiveAddress : Prop :=
  ∀ (nn : Byte) (addr : Word),
    StoreRow 0x81#8 (.staIndX nn) (.indexedIndirect nn) (fun _ => 6) State.a ∧
    StoreRow 0x85#8 (.staZp nn) (.zeroPage nn) (fun _ => 3) State.a ∧
    StoreRow 0x8D#8 (.staAbs addr) (.absolute addr) (fun _ => 4) State.a ∧
    StoreRow 0x91#8 (.staIndY nn) (.indirectIndexed nn) (staIndexedCycles 6 5 (.indirectIndexed nn)) State.a ∧
    StoreRow 0x95#8 (.staZpX nn) (.zeroPageX nn) (fun _ => 4) State.a ∧
    StoreRow 0x99#8 (.staAbsY addr) (.absoluteY addr) (staIndexedCycles 5 4 (.absoluteY addr)) State.a ∧
    StoreRow 0x9D#8 (.staAbsX addr) (.absoluteX addr) (staIndexedCycles 5 4 (.absoluteX addr)) State.a ∧
    StoreRow 0x86#8 (.stxZp nn) (.zeroPage nn) (fun _ => 3) State.x ∧
    StoreRow 0x8E#8 (.stxAbs addr) (.absolute addr) (fun _ => 4) State.x ∧
    StoreRow 0x96#8 (.stxZpY nn) (.zeroPageY nn) (fun _ => 4) State.x ∧
    StoreRow 0x84#8 (.styZp nn) (.zeroPage nn) (fun _ => 3) State.y ∧
    StoreRow 0x8C#8 (.styAbs addr) (.absolute addr) (fun _ => 4) State.y ∧
    StoreRow 0x94#8 (.styZpX nn) (.zeroPageX nn) (fun _ => 4) State.y ∧
    StoreRow 0x83#8 (.saxIndX nn) (.indexedIndirect nn) (fun _ => 6) (fun s => s.a &&& s.x) ∧
    StoreRow 0x87#8 (.saxZp nn) (.zeroPage nn) (fun _ => 3) (fun s => s.a &&& s.x) ∧
    StoreRow 0x8F#8 (.saxAbs addr) (.absolute addr) (fun _ => 4) (fun s => s.a &&& s.x) ∧
    StoreRow 0x97#8 (.saxZpY nn) (.zeroPageY nn) (fun _ => 4) (fun s => s.a &&& s.x)

/-- TAX, TAY, TSX, TXA, TXS, TYA move a byte; all but TXS recompute N and Z (41_load_store_transfer.md R106 R107
R108 R109 R110 R111). Rests on the decision D36 of 92_eei_decisions.md and on what the spec gives from
general knowledge (R110). -/
def Obligations.TransfersMoveAByteAndSetFlags : Prop :=
  Row [0xAA#8] .tax (fun s => { putX s.a s with cycles := 2 }) ∧
    Row [0xA8#8] .tay (fun s => { putY s.a s with cycles := 2 }) ∧
    Row [0xBA#8] .tsx (fun s => { putX (lo8 s.sp) s with cycles := 2 }) ∧
    Row [0x8A#8] .txa (fun s => { putA s.x s with cycles := 2 }) ∧
    Row [0x9A#8] .txs (fun s => { s with sp := word 0x01#8 s.x, cycles := 2 }) ∧
    Row [0x98#8] .tya (fun s => { putA s.y s with cycles := 2 })

/-- ADC and SBC, the duplicate 0xEB too: exact sums and differences, N V Z C, no decimal mode
(42_arithmetic_logic.md R114 R115, 44_undocumented.md R168). Rests on the decision D1 of 92_eei_decisions.md
and on what the spec gives from general knowledge (R168). -/
def Obligations.AddAndSubtractWithCarry : Prop :=
  ∀ (nn : Byte) (addr : Word),
    ReadRow 0x61#8 (.adcIndX nn) (.memory (.indexedIndirect nn)) 6 adcResult ∧
    ReadRow 0x65#8 (.adcZp nn) (.memory (.zeroPage nn)) 3 adcResult ∧
    ReadRow 0x69#8 (.adcImm nn) (.immediate nn) 2 adcResult ∧
    ReadRow 0x6D#8 (.adcAbs addr) (.memory (.absolute addr)) 4 adcResult ∧
    ReadRow 0x71#8 (.adcIndY nn) (.memory (.indirectIndexed nn)) 5 adcResult ∧
    ReadRow 0x75#8 (.adcZpX nn) (.memory (.zeroPageX nn)) 4 adcResult ∧
    ReadRow 0x79#8 (.adcAbsY addr) (.memory (.absoluteY addr)) 4 adcResult ∧
    ReadRow 0x7D#8 (.adcAbsX addr) (.memory (.absoluteX addr)) 4 adcResult ∧
    ReadRow 0xE1#8 (.sbcIndX nn) (.memory (.indexedIndirect nn)) 6 sbcResult ∧
    ReadRow 0xE5#8 (.sbcZp nn) (.memory (.zeroPage nn)) 3 sbcResult ∧
    ReadRow 0xE9#8 (.sbcImm nn) (.immediate nn) 2 sbcResult ∧
    ReadRow 0xED#8 (.sbcAbs addr) (.memory (.absolute addr)) 4 sbcResult ∧
    ReadRow 0xF1#8 (.sbcIndY nn) (.memory (.indirectIndexed nn)) 5 sbcResult ∧
    ReadRow 0xF5#8 (.sbcZpX nn) (.memory (.zeroPageX nn)) 4 sbcResult ∧
    ReadRow 0xF9#8 (.sbcAbsY addr) (.memory (.absoluteY addr)) 4 sbcResult ∧
    ReadRow 0xFD#8 (.sbcAbsX addr) (.memory (.absoluteX addr)) 4 sbcResult ∧
    ReadRow 0xEB#8 (.sbcEB nn) (.immediate nn) 2 sbcResult

/-- AND, ORA, EOR, BIT: every row, with N and Z (BIT: N and V from the operand, A unchanged)
(42_arithmetic_logic.md R116 R117 R118 R119). Rests on what the spec gives from general knowledge (R119). -/
def Obligations.LogicAndBitTest : Prop :=
  ∀ (nn : Byte) (addr : Word),
    ReadRow 0x21#8 (.andIndX nn) (.memory (.indexedIndirect nn)) 6 (fun m t => putA (t.a &&& m) t) ∧
    ReadRow 0x25#8 (.andZp nn) (.memory (.zeroPage nn)) 3 (fun m t => putA (t.a &&& m) t) ∧
    ReadRow 0x29#8 (.andImm nn) (.immediate nn) 2 (fun m t => putA (t.a &&& m) t) ∧
    ReadRow 0x2D#8 (.andAbs addr) (.memory (.absolute addr)) 4 (fun m t => putA (t.a &&& m) t) ∧
    ReadRow 0x31#8 (.andIndY nn) (.memory (.indirectIndexed nn)) 5 (fun m t => putA (t.a &&& m) t) ∧
    ReadRow 0x35#8 (.andZpX nn) (.memory (.zeroPageX nn)) 4 (fun m t => putA (t.a &&& m) t) ∧
    ReadRow 0x39#8 (.andAbsY addr) (.memory (.absoluteY addr)) 4 (fun m t => putA (t.a &&& m) t) ∧
    ReadRow 0x3D#8 (.andAbsX addr) (.memory (.absoluteX addr)) 4 (fun m t => putA (t.a &&& m) t) ∧
    ReadRow 0x01#8 (.oraIndX nn) (.memory (.indexedIndirect nn)) 6 (fun m t => putA (t.a ||| m) t) ∧
    ReadRow 0x05#8 (.oraZp nn) (.memory (.zeroPage nn)) 3 (fun m t => putA (t.a ||| m) t) ∧
    ReadRow 0x09#8 (.oraImm nn) (.immediate nn) 2 (fun m t => putA (t.a ||| m) t) ∧
    ReadRow 0x0D#8 (.oraAbs addr) (.memory (.absolute addr)) 4 (fun m t => putA (t.a ||| m) t) ∧
    ReadRow 0x11#8 (.oraIndY nn) (.memory (.indirectIndexed nn)) 5 (fun m t => putA (t.a ||| m) t) ∧
    ReadRow 0x15#8 (.oraZpX nn) (.memory (.zeroPageX nn)) 4 (fun m t => putA (t.a ||| m) t) ∧
    ReadRow 0x19#8 (.oraAbsY addr) (.memory (.absoluteY addr)) 4 (fun m t => putA (t.a ||| m) t) ∧
    ReadRow 0x1D#8 (.oraAbsX addr) (.memory (.absoluteX addr)) 4 (fun m t => putA (t.a ||| m) t) ∧
    ReadRow 0x41#8 (.eorIndX nn) (.memory (.indexedIndirect nn)) 6 (fun m t => putA (t.a ^^^ m) t) ∧
    ReadRow 0x45#8 (.eorZp nn) (.memory (.zeroPage nn)) 3 (fun m t => putA (t.a ^^^ m) t) ∧
    ReadRow 0x49#8 (.eorImm nn) (.immediate nn) 2 (fun m t => putA (t.a ^^^ m) t) ∧
    ReadRow 0x4D#8 (.eorAbs addr) (.memory (.absolute addr)) 4 (fun m t => putA (t.a ^^^ m) t) ∧
    ReadRow 0x51#8 (.eorIndY nn) (.memory (.indirectIndexed nn)) 5 (fun m t => putA (t.a ^^^ m) t) ∧
    ReadRow 0x55#8 (.eorZpX nn) (.memory (.zeroPageX nn)) 4 (fun m t => putA (t.a ^^^ m) t) ∧
    ReadRow 0x59#8 (.eorAbsY addr) (.memory (.absoluteY addr)) 4 (fun m t => putA (t.a ^^^ m) t) ∧
    ReadRow 0x5D#8 (.eorAbsX addr) (.memory (.absoluteX addr)) 4 (fun m t => putA (t.a ^^^ m) t) ∧
    ReadRow 0x24#8 (.bitZp nn) (.memory (.zeroPage nn)) 3 bitResult ∧
    ReadRow 0x2C#8 (.bitAbs addr) (.memory (.absolute addr)) 4 bitResult

/-- CMP, CPX, CPY: C on no borrow, Z on equality, N from the difference; no register, V unchanged
(42_arithmetic_logic.md R113 R120 R121 R122). Rests on what the spec gives from general knowledge (R113). -/
def Obligations.CompareSetsCarryZeroSign : Prop :=
  ∀ (nn : Byte) (addr : Word),
    ReadRow 0xC1#8 (.cmpIndX nn) (.memory (.indexedIndirect nn)) 6 compareA ∧
    ReadRow 0xC5#8 (.cmpZp nn) (.memory (.zeroPage nn)) 3 compareA ∧
    ReadRow 0xC9#8 (.cmpImm nn) (.immediate nn) 2 compareA ∧
    ReadRow 0xCD#8 (.cmpAbs addr) (.memory (.absolute addr)) 4 compareA ∧
    ReadRow 0xD1#8 (.cmpIndY nn) (.memory (.indirectIndexed nn)) 5 compareA ∧
    ReadRow 0xD5#8 (.cmpZpX nn) (.memory (.zeroPageX nn)) 4 compareA ∧
    ReadRow 0xD9#8 (.cmpAbsY addr) (.memory (.absoluteY addr)) 4 compareA ∧
    ReadRow 0xDD#8 (.cmpAbsX addr) (.memory (.absoluteX addr)) 4 compareA ∧
    ReadRow 0xE0#8 (.cpxImm nn) (.immediate nn) 2 compareX ∧
    ReadRow 0xE4#8 (.cpxZp nn) (.memory (.zeroPage nn)) 3 compareX ∧
    ReadRow 0xEC#8 (.cpxAbs addr) (.memory (.absolute addr)) 4 compareX ∧
    ReadRow 0xC0#8 (.cpyImm nn) (.immediate nn) 2 compareY ∧
    ReadRow 0xC4#8 (.cpyZp nn) (.memory (.zeroPage nn)) 3 compareY ∧
    ReadRow 0xCC#8 (.cpyAbs addr) (.memory (.absolute addr)) 4 compareY

/-- INC and DEC: one read, one write of the byte plus or minus 1, N and Z (42_arithmetic_logic.md R123 R124).
Rests on the decision D21 of 92_eei_decisions.md. -/
def Obligations.MemoryIncrementAndDecrement : Prop :=
  ∀ (nn : Byte) (addr : Word),
    ModifyRow 0xE6#8 (.incZp nn) (.zeroPage nn) 5 incremented stepFlags ∧
    ModifyRow 0xEE#8 (.incAbs addr) (.absolute addr) 6 incremented stepFlags ∧
    ModifyRow 0xF6#8 (.incZpX nn) (.zeroPageX nn) 6 incremented stepFlags ∧
    ModifyRow 0xFE#8 (.incAbsX addr) (.absoluteX addr) 7 incremented stepFlags ∧
    ModifyRow 0xC6#8 (.decZp nn) (.zeroPage nn) 5 decremented stepFlags ∧
    ModifyRow 0xCE#8 (.decAbs addr) (.absolute addr) 6 decremented stepFlags ∧
    ModifyRow 0xD6#8 (.decZpX nn) (.zeroPageX nn) 6 decremented stepFlags ∧
    ModifyRow 0xDE#8 (.decAbsX addr) (.absoluteX addr) 7 decremented stepFlags

/-- INX, INY, DEX, DEY wrap modulo 256 and set N and Z only (R125, R126, R127, R128). -/
def Obligations.RegisterIncrementAndDecrement : Prop :=
  Row [0xE8#8] .inx (fun s => { putX (BitVec.ofNat 8 (s.x.toNat + 1)) s with cycles := 2 }) ∧
    Row [0xC8#8] .iny (fun s => { putY (BitVec.ofNat 8 (s.y.toNat + 1)) s with cycles := 2 }) ∧
    Row [0xCA#8] .dex (fun s => { putX (BitVec.ofInt 8 (s.x.toNat - 1)) s with cycles := 2 }) ∧
    Row [0x88#8] .dey (fun s => { putY (BitVec.ofInt 8 (s.y.toNat - 1)) s with cycles := 2 })

/-- ASL, LSR, ROL, ROR on the accumulator and on memory, with C, N, Z (42_arithmetic_logic.md R129 R130 R131
R132). Rests on what the spec gives from general knowledge (R129, R130, R131, R132). -/
def Obligations.ShiftsAndRotates : Prop :=
  ∀ (nn : Byte) (addr : Word),
    ModifyRow 0x06#8 (.aslZp nn) (.zeroPage nn) 5 shiftedLeft leftFlags ∧
    AccumulatorModifyRow 0x0A#8 .aslAcc 2 shiftedLeft leftFlags ∧
    ModifyRow 0x0E#8 (.aslAbs addr) (.absolute addr) 6 shiftedLeft leftFlags ∧
    ModifyRow 0x16#8 (.aslZpX nn) (.zeroPageX nn) 6 shiftedLeft leftFlags ∧
    ModifyRow 0x1E#8 (.aslAbsX addr) (.absoluteX addr) 7 shiftedLeft leftFlags ∧
    ModifyRow 0x46#8 (.lsrZp nn) (.zeroPage nn) 5 shiftedRight rightFlags ∧
    AccumulatorModifyRow 0x4A#8 .lsrAcc 2 shiftedRight rightFlags ∧
    ModifyRow 0x4E#8 (.lsrAbs addr) (.absolute addr) 6 shiftedRight rightFlags ∧
    ModifyRow 0x56#8 (.lsrZpX nn) (.zeroPageX nn) 6 shiftedRight rightFlags ∧
    ModifyRow 0x5E#8 (.lsrAbsX addr) (.absoluteX addr) 7 shiftedRight rightFlags ∧
    ModifyRow 0x26#8 (.rolZp nn) (.zeroPage nn) 5 rotatedLeft leftFlags ∧
    AccumulatorModifyRow 0x2A#8 .rolAcc 2 rotatedLeft leftFlags ∧
    ModifyRow 0x2E#8 (.rolAbs addr) (.absolute addr) 6 rotatedLeft leftFlags ∧
    ModifyRow 0x36#8 (.rolZpX nn) (.zeroPageX nn) 6 rotatedLeft leftFlags ∧
    ModifyRow 0x3E#8 (.rolAbsX addr) (.absoluteX addr) 7 rotatedLeft leftFlags ∧
    ModifyRow 0x66#8 (.rorZp nn) (.zeroPage nn) 5 rotatedRight rightFlags ∧
    AccumulatorModifyRow 0x6A#8 .rorAcc 2 rotatedRight rightFlags ∧
    ModifyRow 0x6E#8 (.rorAbs addr) (.absolute addr) 6 rotatedRight rightFlags ∧
    ModifyRow 0x76#8 (.rorZpX nn) (.zeroPageX nn) 6 rotatedRight rightFlags ∧
    ModifyRow 0x7E#8 (.rorAbsX addr) (.absoluteX addr) 7 rotatedRight rightFlags

/-- The eight branches: target PC + signed displacement, 2, 3 or 4 cycles, no flag written (R136, R137, R138,
R139, R140, R141, R142, R143, R144). -/
def Obligations.BranchesTakeTheirConditions : Prop :=
  BranchRow 0x90#8 .bcc (fun s => !s.flag .c) ∧
    BranchRow 0xB0#8 .bcs (fun s => s.flag .c) ∧
    BranchRow 0xF0#8 .beq (fun s => s.flag .z) ∧
    BranchRow 0x30#8 .bmi (fun s => s.flag .n) ∧
    BranchRow 0xD0#8 .bne (fun s => !s.flag .z) ∧
    BranchRow 0x10#8 .bpl (fun s => !s.flag .n) ∧
    BranchRow 0x50#8 .bvc (fun s => !s.flag .v) ∧
    BranchRow 0x70#8 .bvs (fun s => s.flag .v)

/-- JMP absolute sets PC; JMP indirect reads its target with the page-wrap bug (R145, R146). -/
def Obligations.JumpsSetPc : Prop :=
  (∀ addr : Word, Row [0x4C#8, lo8 addr, hi8 addr] (.jmpAbs addr) fun s => { s with pc := addr, cycles := 3 }) ∧
    ∀ ptr : Word, Row [0x6C#8, lo8 ptr, hi8 ptr] (.jmpInd ptr) fun s =>
      if lo8 ptr = 0xFF#8 then
        let lo := s.read8 ptr
        let hi := lo.2.read8 (word (hi8 ptr) 0x00#8)
        { hi.2 with pc := word hi.1 lo.1, cycles := 5 }
      else { (s.read16 ptr).2 with pc := (s.read16 ptr).1, cycles := 5 }

/-- JSR pushes the return address minus 1, high then low; RTS pulls low, high, and adds 1
(43_control_stack_flags.md R147 R148). Rests on the decision D22 of 92_eei_decisions.md. -/
def Obligations.CallAndReturn : Prop :=
  (∀ addr : Word, Row [0x20#8, lo8 addr, hi8 addr] (.jsr addr) fun s =>
      { (s.push (hi8 (s.pc - 1))).push (lo8 (s.pc - 1)) with pc := addr, cycles := 6 }) ∧
    Row [0x60#8] .rts fun s =>
      let lo := s.pull
      let hi := lo.2.pull
      { hi.2 with pc := word hi.1 lo.1 + 1, cycles := 6 }

/-- BRK pushes the return address and P with bits 4 and 5 set, sets I, and loads PC from 0xFFFE
(43_control_stack_flags.md R149, 60_exceptions.md R180, log entry 16). Rests on the decisions D10, D11, D12
of 92_eei_decisions.md. -/
def Obligations.BreakTakesTheSoftwareTrap : Prop :=
  Row [0x00#8] .brk fun s =>
    let ret := BitVec.ofNat 16 (s.pc.toNat + 0xFFFF + s.config.brkReturnOffset)
    let u := match s.config.brkPushOrder with
      | .highFirst => (s.push (hi8 ret)).push (lo8 ret)
      | .lowFirst => (s.push (lo8 ret)).push (hi8 ret)
    let t := u.push (s.p ||| 0x30#8)
    { t with
      p := statusByte (s.flag .n) (s.flag .v) (s.flag .d) true (s.flag .z) (s.flag .c)
      pc := word (t.byteAt 0xFFFF) (t.byteAt 0xFFFE)
      cycles := 7 }

/-- RTI pulls P (bit 4 cleared, bit 5 set), then PC low and high, with no +1 (43_control_stack_flags.md R150,
60_exceptions.md R181). Rests on the decision D14 of 92_eei_decisions.md and on the spec's own inference
(R181). -/
def Obligations.ReturnFromInterruptRestores : Prop :=
  Row [0x40#8] .rti fun s =>
    let status := s.pull
    let lo := status.2.pull
    let hi := lo.2.pull
    { hi.2 with p := (status.1 &&& 0xCF#8) ||| 0x20#8, pc := word hi.1 lo.1, cycles := 6 }

/-- PHA, PHP, PLA, PLP push and pull A and P (43_control_stack_flags.md R151 R152 R153 R154). Rests on the
decisions D13, D14 of 92_eei_decisions.md. -/
def Obligations.StackInstructionsPushAndPull : Prop :=
  Row [0x48#8] .pha (fun s => { s.push s.a with cycles := 3 }) ∧
    Row [0x08#8] .php (fun s => { s.push (s.p ||| 0x30#8) with cycles := 3 }) ∧
    Row [0x68#8] .pla (fun s => { putA s.pull.1 s.pull.2 with cycles := 4 }) ∧
    Row [0x28#8] .plp (fun s => { s.pull.2 with p := (s.pull.1 &&& 0xCF#8) ||| 0x20#8, cycles := 4 })

/-- CLC, CLD, CLI, CLV, SEC, SED, SEI write their one flag; NOP nothing (43_control_stack_flags.md R155 R156
R157 R158 R159 R160 R161 R162). The corner case of R156 and R160, that D has no effect on arithmetic, is
DecimalFlagHasNoEffectOnArithmetic. -/
def Obligations.FlagInstructionsWriteOneFlag : Prop :=
  Row [0x18#8] .clc (fun s => { s with p := statusByte (s.flag .n) (s.flag .v) (s.flag .d) (s.flag .i) (s.flag .z) false, cycles := 2 }) ∧
    Row [0xD8#8] .cld (fun s => { s with p := statusByte (s.flag .n) (s.flag .v) false (s.flag .i) (s.flag .z) (s.flag .c), cycles := 2 }) ∧
    Row [0x58#8] .cli (fun s => { s with p := statusByte (s.flag .n) (s.flag .v) (s.flag .d) false (s.flag .z) (s.flag .c), cycles := 2 }) ∧
    Row [0xB8#8] .clv (fun s => { s with p := statusByte (s.flag .n) false (s.flag .d) (s.flag .i) (s.flag .z) (s.flag .c), cycles := 2 }) ∧
    Row [0x38#8] .sec (fun s => { s with p := statusByte (s.flag .n) (s.flag .v) (s.flag .d) (s.flag .i) (s.flag .z) true, cycles := 2 }) ∧
    Row [0xF8#8] .sed (fun s => { s with p := statusByte (s.flag .n) (s.flag .v) true (s.flag .i) (s.flag .z) (s.flag .c), cycles := 2 }) ∧
    Row [0x78#8] .sei (fun s => { s with p := statusByte (s.flag .n) (s.flag .v) (s.flag .d) true (s.flag .z) (s.flag .c), cycles := 2 }) ∧
    Row [0xEA#8] .nop (fun s => { s with cycles := 2 })

/-- The 27 undocumented NOPs do nothing but return their count (44_undocumented.md R165). Rests on the decisions
D1, D21 of 92_eei_decisions.md and on what the spec gives from general knowledge (R165). -/
def Obligations.UndocumentedNopsOnlyTakeTheirBytes : Prop :=
  ∀ (nn : Byte) (addr : Word),
    Row [0x04#8, nn] (.nop04 nn) (fun s => { s with cycles := 3 }) ∧
    Row [0x0C#8, lo8 addr, hi8 addr] (.nop0C addr) (fun s => { s with cycles := 4 }) ∧
    Row [0x14#8, nn] (.nop14 nn) (fun s => { s with cycles := 4 }) ∧
    Row [0x1A#8] .nop1A (fun s => { s with cycles := 2 }) ∧
    Row [0x1C#8, lo8 addr, hi8 addr] (.nop1C addr) (fun s => { s with cycles := if s.crossed (.absoluteX addr) then 5 else 4 }) ∧
    Row [0x34#8, nn] (.nop34 nn) (fun s => { s with cycles := 4 }) ∧
    Row [0x3A#8] .nop3A (fun s => { s with cycles := 2 }) ∧
    Row [0x3C#8, lo8 addr, hi8 addr] (.nop3C addr) (fun s => { s with cycles := if s.crossed (.absoluteX addr) then 5 else 4 }) ∧
    Row [0x44#8, nn] (.nop44 nn) (fun s => { s with cycles := 3 }) ∧
    Row [0x54#8, nn] (.nop54 nn) (fun s => { s with cycles := 4 }) ∧
    Row [0x5A#8] .nop5A (fun s => { s with cycles := 2 }) ∧
    Row [0x5C#8, lo8 addr, hi8 addr] (.nop5C addr) (fun s => { s with cycles := if s.crossed (.absoluteX addr) then 5 else 4 }) ∧
    Row [0x64#8, nn] (.nop64 nn) (fun s => { s with cycles := 3 }) ∧
    Row [0x74#8, nn] (.nop74 nn) (fun s => { s with cycles := 4 }) ∧
    Row [0x7A#8] .nop7A (fun s => { s with cycles := 2 }) ∧
    Row [0x7C#8, lo8 addr, hi8 addr] (.nop7C addr) (fun s => { s with cycles := if s.crossed (.absoluteX addr) then 5 else 4 }) ∧
    Row [0x80#8, nn] (.nop80 nn) (fun s => { s with cycles := 2 }) ∧
    Row [0x82#8, nn] (.nop82 nn) (fun s => { s with cycles := 2 }) ∧
    Row [0x89#8, nn] (.nop89 nn) (fun s => { s with cycles := 2 }) ∧
    Row [0xC2#8, nn] (.nopC2 nn) (fun s => { s with cycles := 2 }) ∧
    Row [0xD4#8, nn] (.nopD4 nn) (fun s => { s with cycles := 4 }) ∧
    Row [0xDA#8] .nopDA (fun s => { s with cycles := 2 }) ∧
    Row [0xDC#8, lo8 addr, hi8 addr] (.nopDC addr) (fun s => { s with cycles := if s.crossed (.absoluteX addr) then 5 else 4 }) ∧
    Row [0xE2#8, nn] (.nopE2 nn) (fun s => { s with cycles := 2 }) ∧
    Row [0xF4#8, nn] (.nopF4 nn) (fun s => { s with cycles := 4 }) ∧
    Row [0xFA#8] .nopFA (fun s => { s with cycles := 2 }) ∧
    Row [0xFC#8, lo8 addr, hi8 addr] (.nopFC addr) (fun s => { s with cycles := if s.crossed (.absoluteX addr) then 5 else 4 })

/-- LAX loads A and X with the operand and recomputes N and Z (44_undocumented.md R166). Rests on the decision
D1 of 92_eei_decisions.md and on what the spec gives from general knowledge (R166). -/
def Obligations.LaxLoadsBothRegisters : Prop :=
  ∀ (nn : Byte) (addr : Word),
    ReadRow 0xA3#8 (.laxIndX nn) (.memory (.indexedIndirect nn)) 6 (fun m t => { t with a := m, x := m, p := nz m t }) ∧
    ReadRow 0xA7#8 (.laxZp nn) (.memory (.zeroPage nn)) 3 (fun m t => { t with a := m, x := m, p := nz m t }) ∧
    ReadRow 0xAF#8 (.laxAbs addr) (.memory (.absolute addr)) 4 (fun m t => { t with a := m, x := m, p := nz m t }) ∧
    ReadRow 0xB3#8 (.laxIndY nn) (.memory (.indirectIndexed nn)) 5 (fun m t => { t with a := m, x := m, p := nz m t }) ∧
    ReadRow 0xB7#8 (.laxZpY nn) (.memory (.zeroPageY nn)) 4 (fun m t => { t with a := m, x := m, p := nz m t }) ∧
    ReadRow 0xBF#8 (.laxAbsY addr) (.memory (.absoluteY addr)) 4 (fun m t => { t with a := m, x := m, p := nz m t })

/-- DCP, ISB, SLO, RLA, SRE, RRA compose their two micro-operations over one address (44_undocumented.md R164
R169 R170 R171 R172 R173 R174). Rests on the decisions D1, D20, D21 of 92_eei_decisions.md and on what the
spec gives from general knowledge (R164, R169, R170, R171, R172, R173, R174). -/
def Obligations.UndocumentedCompositions : Prop :=
  ∀ (nn : Byte) (addr : Word),
    ModifyRow 0xC3#8 (.dcpIndX nn) (.indexedIndirect nn) 8 decremented thenCompare ∧
    ModifyRow 0xC7#8 (.dcpZp nn) (.zeroPage nn) 5 decremented thenCompare ∧
    ModifyRow 0xCF#8 (.dcpAbs addr) (.absolute addr) 6 decremented thenCompare ∧
    ModifyRow 0xD3#8 (.dcpIndY nn) (.indirectIndexed nn) 8 decremented thenCompare ∧
    ModifyRow 0xD7#8 (.dcpZpX nn) (.zeroPageX nn) 6 decremented thenCompare ∧
    ModifyRow 0xDB#8 (.dcpAbsY addr) (.absoluteY addr) 7 decremented thenCompare ∧
    ModifyRow 0xDF#8 (.dcpAbsX addr) (.absoluteX addr) 7 decremented thenCompare ∧
    ModifyRow 0xE3#8 (.isbIndX nn) (.indexedIndirect nn) 8 incremented thenSubtract ∧
    ModifyRow 0xE7#8 (.isbZp nn) (.zeroPage nn) 5 incremented thenSubtract ∧
    ModifyRow 0xEF#8 (.isbAbs addr) (.absolute addr) 6 incremented thenSubtract ∧
    ModifyRow 0xF3#8 (.isbIndY nn) (.indirectIndexed nn) 8 incremented thenSubtract ∧
    ModifyRow 0xF7#8 (.isbZpX nn) (.zeroPageX nn) 6 incremented thenSubtract ∧
    ModifyRow 0xFB#8 (.isbAbsY addr) (.absoluteY addr) 7 incremented thenSubtract ∧
    ModifyRow 0xFF#8 (.isbAbsX addr) (.absoluteX addr) 7 incremented thenSubtract ∧
    ModifyRow 0x03#8 (.sloIndX nn) (.indexedIndirect nn) 8 shiftedLeft thenOr ∧
    ModifyRow 0x07#8 (.sloZp nn) (.zeroPage nn) 5 shiftedLeft thenOr ∧
    ModifyRow 0x0F#8 (.sloAbs addr) (.absolute addr) 6 shiftedLeft thenOr ∧
    ModifyRow 0x13#8 (.sloIndY nn) (.indirectIndexed nn) 8 shiftedLeft thenOr ∧
    ModifyRow 0x17#8 (.sloZpX nn) (.zeroPageX nn) 6 shiftedLeft thenOr ∧
    ModifyRow 0x1B#8 (.sloAbsY addr) (.absoluteY addr) 7 shiftedLeft thenOr ∧
    ModifyRow 0x1F#8 (.sloAbsX addr) (.absoluteX addr) 7 shiftedLeft thenOr ∧
    ModifyRow 0x23#8 (.rlaIndX nn) (.indexedIndirect nn) 8 rotatedLeft thenAnd ∧
    ModifyRow 0x27#8 (.rlaZp nn) (.zeroPage nn) 5 rotatedLeft thenAnd ∧
    ModifyRow 0x2F#8 (.rlaAbs addr) (.absolute addr) 6 rotatedLeft thenAnd ∧
    ModifyRow 0x33#8 (.rlaIndY nn) (.indirectIndexed nn) 8 rotatedLeft thenAnd ∧
    ModifyRow 0x37#8 (.rlaZpX nn) (.zeroPageX nn) 6 rotatedLeft thenAnd ∧
    ModifyRow 0x3B#8 (.rlaAbsY addr) (.absoluteY addr) 7 rotatedLeft thenAnd ∧
    ModifyRow 0x3F#8 (.rlaAbsX addr) (.absoluteX addr) 7 rotatedLeft thenAnd ∧
    ModifyRow 0x43#8 (.sreIndX nn) (.indexedIndirect nn) 8 shiftedRight thenXor ∧
    ModifyRow 0x47#8 (.sreZp nn) (.zeroPage nn) 5 shiftedRight thenXor ∧
    ModifyRow 0x4F#8 (.sreAbs addr) (.absolute addr) 6 shiftedRight thenXor ∧
    ModifyRow 0x53#8 (.sreIndY nn) (.indirectIndexed nn) 8 shiftedRight thenXor ∧
    ModifyRow 0x57#8 (.sreZpX nn) (.zeroPageX nn) 6 shiftedRight thenXor ∧
    ModifyRow 0x5B#8 (.sreAbsY addr) (.absoluteY addr) 7 shiftedRight thenXor ∧
    ModifyRow 0x5F#8 (.sreAbsX addr) (.absoluteX addr) 7 shiftedRight thenXor ∧
    ModifyRow 0x63#8 (.rraIndX nn) (.indexedIndirect nn) 8 rotatedRight thenAdd ∧
    ModifyRow 0x67#8 (.rraZp nn) (.zeroPage nn) 5 rotatedRight thenAdd ∧
    ModifyRow 0x6F#8 (.rraAbs addr) (.absolute addr) 6 rotatedRight thenAdd ∧
    ModifyRow 0x73#8 (.rraIndY nn) (.indirectIndexed nn) 8 rotatedRight thenAdd ∧
    ModifyRow 0x77#8 (.rraZpX nn) (.zeroPageX nn) 6 rotatedRight thenAdd ∧
    ModifyRow 0x7B#8 (.rraAbsY addr) (.absoluteY addr) 7 rotatedRight thenAdd ∧
    ModifyRow 0x7F#8 (.rraAbsX addr) (.absoluteX addr) 7 rotatedRight thenAdd

/-- Every instruction leaves every byte of memory but the ones it stores to (20_memory.md R48 R54, 10_state.md
R32). Rests on what the spec gives from general knowledge (R32) and on the spec's own inference (R54). -/
def Obligations.EveryOtherByteIsUnchanged : Prop :=
  ∀ (i : Instr) (s t : State), exec i s = .next t →
    ∀ k : Nat, (∀ a ∈ storedAddresses i s, k ≠ (Machine.translate a).toNat) → t.byteAt k = s.byteAt k

/-- A, X, Y, SP and PC are written only by the instructions listed for them (10_state.md R16 R17 R18 R20 R31).
Rests on the decision D5 of 92_eei_decisions.md. -/
def Obligations.RegistersChangeOnlyByTheirWriters : Prop :=
  ∀ (i : Instr) (s t : State), exec i s = .next t →
    (i.mnemonic ∉ [.lda, .txa, .tya, .pla, .adc, .sbc, .and, .ora, .eor, .lax, .slo, .rla, .sre, .rra, .isb] →
        i ∉ [.aslAcc, .lsrAcc, .rolAcc, .rorAcc] → t.a = s.a) ∧
      (i.mnemonic ∉ [.ldx, .tax, .tsx, .inx, .dex, .lax] → t.x = s.x) ∧
      (i.mnemonic ∉ [.ldy, .tay, .iny, .dey] → t.y = s.y) ∧
      (i.mnemonic ∉ [.txs, .pha, .php, .pla, .plp, .jsr, .rts, .brk, .rti] → t.sp = s.sp) ∧
      (i.mnemonic ∉ controlMnemonics → t.pc = s.pc)

/-- P has its layout, and each flag is written only by the instructions listed for it (10_state.md R21 R22 R23
R24 R25 R26 R27 R28 R29 R30). Rests on what the spec gives from general knowledge (R21). -/
def Obligations.FlagsChangeOnlyByTheirWriters : Prop :=
  (∀ s : State, s.p.toNat = 128 * (s.flag .n).toNat + 64 * (s.flag .v).toNat + 32 * (s.flag .u).toNat +
      16 * (s.flag .b).toNat + 8 * (s.flag .d).toNat + 4 * (s.flag .i).toNat + 2 * (s.flag .z).toNat +
      (s.flag .c).toNat) ∧
    (∀ n v d i z c : Bool, (statusByte n v d i z c).toNat =
      128 * n.toNat + 64 * v.toNat + 32 + 8 * d.toNat + 4 * i.toNat + 2 * z.toNat + c.toNat) ∧
    ∀ (i : Instr) (s t : State), exec i s = .next t →
    let nzWriters : List Mnemonic :=
      [.lda, .ldx, .ldy, .tax, .tay, .txa, .tya, .tsx, .pla, .adc, .sbc, .and, .ora, .eor, .bit, .cmp, .cpx, .cpy,
        .inc, .dec, .inx, .iny, .dex, .dey, .asl, .lsr, .rol, .ror, .plp, .rti, .lax, .dcp, .isb, .slo, .rla, .sre,
        .rra]
    let cWriters : List Mnemonic :=
      [.adc, .sbc, .cmp, .cpx, .cpy, .asl, .lsr, .rol, .ror, .clc, .sec, .plp, .rti, .dcp, .isb, .slo, .rla, .sre,
        .rra]
    let vWriters : List Mnemonic := [.adc, .sbc, .bit, .clv, .plp, .rti, .isb, .rra]
    let iWriters : List Mnemonic := [.cli, .sei, .brk, .plp, .rti]
    let dWriters : List Mnemonic := [.cld, .sed, .plp, .rti]
    (i.mnemonic ∉ nzWriters → t.flag .n = s.flag .n ∧ t.flag .z = s.flag .z) ∧
      (i.mnemonic ∉ cWriters → t.flag .c = s.flag .c) ∧
      (i.mnemonic ∉ vWriters → t.flag .v = s.flag .v) ∧
      (i.mnemonic ∉ iWriters → t.flag .i = s.flag .i) ∧
      (i.mnemonic ∉ dWriters → t.flag .d = s.flag .d) ∧
      (i.mnemonic ∉ nzWriters ++ cWriters ++ vWriters ++ iWriters ++ dWriters → t.p = s.p)

/-- No instruction changes the halt mark, configuration, bank count or interrupt inputs (10_state.md R40,
60_exceptions.md R189, log entry 8, log entry 11, log entry 12). Rests on the decisions D17, D27 of
92_eei_decisions.md. That no instruction writes the configuration, the step mark or the interrupt inputs is
the model's (log entries 8, 11, 12). -/
def Obligations.NoInstructionTouchesTheBlocksOtherState : Prop :=
  ∀ (i : Instr) (s t : State), exec i s = .next t →
    t.halted = s.halted ∧ t.config = s.config ∧ t.banksLoaded = s.banksLoaded ∧ t.nmiPending = s.nmiPending ∧
      t.irqLine = s.irqLine ∧ t.started = s.started ∧ s.periphReads ≤ t.periphReads ∧
      ∃ calls, t.portCalls = s.portCalls ++ calls

/-- A read-modify-write of a peripheral register is one peripheral read and one sink call (20_memory.md R60,
44_undocumented.md R164, log entry 2, log entry 3, log entry 23). Rests on the decisions D1, D20, D21, D22
of 92_eei_decisions.md and on what the spec gives from general knowledge (R164). -/
def Obligations.ReadModifyWriteTouchesThePortTwice : Prop :=
  ∀ (i : Instr) (m : AddrMode) (s : State), i.mnemonic ∈ modifyMnemonics → i.addrMode = some m →
    isPeriph (Machine.translate (s.effectiveAddress m)) = true → 
    ¬(s.config.resetMode = .debug ∧ Machine.translate (s.effectiveAddress m) = s.config.statusShimAddr) →
    ∃ t v r, exec i s = .next t ∧ t.portCalls = s.portCalls ++
      [.peripheralRead (Machine.translate (s.effectiveAddress m)) v, .registerWrite (Machine.translate (s.effectiveAddress m)) r]

/-- ADC, SBC, ISB and RRA compute the same whatever D holds (42_arithmetic_logic.md R134). -/
def Obligations.DecimalFlagHasNoEffectOnArithmetic : Prop :=
  ∀ (i : Instr) (s : State), i.mnemonic ∈ [.adc, .sbc, .isb, .rra] →
    ∃ t, exec i (s.setFlag .d false) = .next t ∧ t.flag .d = false ∧
      exec i (s.setFlag .d true) = .next (t.setFlag .d true)

/-- The add/subtract inverse law (42_arithmetic_logic.md R135). Rests on the spec's own inference (R135). -/
def Obligations.SubtractUndoesAdd : Prop :=
  ∀ (a b : Byte) (c k : Bool),
    let r := add8 a b c
    (add8 r.value (~~~b) k).value = BitVec.ofInt 8 (a.toNat + c.toNat + k.toNat - 1) ∧
      (add8 r.value (~~~b) (!c)).value = a ∧
      ((add8 r.value (~~~b) r.carry).value = a ↔ c.toNat + r.carry.toNat = 1)

/-- V of the adder is exactly two's complement overflow (42_arithmetic_logic.md R112 R133). Rests on the spec's
own inference (R133). -/
def Obligations.OverflowIsSignedOverflow : Prop :=
  ∀ (a b : Byte) (c : Bool),
    (add8 a b c).overflow = true ↔ a.toInt + b.toInt + c.toNat < -128 ∨ 127 < a.toInt + b.toInt + c.toNat

/-- RTI after BRK returns to opPC + BRK_RETURN_OFFSET with P and SP restored (60_exceptions.md R180 R181, log
entry 16). Rests on the decisions D10, D11, D12 of 92_eei_decisions.md and on the spec's own inference
(R181). -/
def Obligations.ReturnFromInterruptUndoesBreak : Prop :=
  ∀ s t u : State, MachineInv s → s.config.brkPushOrder = .highFirst → exec .brk s = .next t →
    u.sp = t.sp → u.storage = t.storage →
    ∃ w, exec .rti u = .next w ∧ w.p = s.p ∧ w.sp = s.sp ∧
      w.pc = s.pc - 1 + BitVec.ofNat 16 s.config.brkReturnOffset

/-- RTS after JSR returns to the instruction after the JSR with SP restored (43_control_stack_flags.md R147 R148
R163). Rests on the decisions D11, D22 of 92_eei_decisions.md. -/
def Obligations.ReturnUndoesCall : Prop :=
  ∀ (s t u : State) (addr : Word), MachineInv s → exec (.jsr addr) s = .next t → u.sp = t.sp → u.storage = t.storage →
    ∃ w, exec .rts u = .next w ∧ w.sp = s.sp ∧ w.pc = s.pc

/-- With the extension the inputs set the NMI latch and the IRQ level, and a pending NMI, else an unmasked IRQ,
is the whole step; without it neither exists (60_exceptions.md R183 R184 R185 R186, log entry 12). Rests on
the decisions D16, D31 of 92_eei_decisions.md and on what the spec gives from general knowledge (R184, R185,
R186). -/
def Obligations.InterruptsAreTakenBetweenSteps : Prop :=
  (∀ s : State, s.config.hwInterrupts = true →
      s.assertNmi = { s with nmiPending := true } ∧ ∀ level, s.setIrq level = { s with irqLine := level }) ∧
    (∀ s : State, s.config.hwInterrupts = false →
      s.assertNmi = s ∧ (∀ level, s.setIrq level = s) ∧ s.pendingInterrupt = none) ∧
    ∀ s : State, s.halted = false → s.config.hwInterrupts = true →
      (s.nmiPending = true → ∃ t, step s = .next t ∧ InterruptEntry (begun s) 0xFFFA false t) ∧
        (s.nmiPending = false → s.irqLine = true → s.flag .i = false →
          ∃ t, step s = .next t ∧ InterruptEntry (begun s) 0xFFFE false t) ∧
        (s.nmiPending = false → (s.irqLine = false ∨ s.flag .i = true) → s.pendingInterrupt = none)

/-- The trace event of a completed step reports its bytes, registers and count; a fault has none
(40_dispatch_and_addressing.md R83, log entry 10). Rests on the decision D25 of 92_eei_decisions.md. -/
def Obligations.TraceEventReportsTheStep : Prop :=
  (∀ (s t : State) (n : Nat) (i : Instr), Fetches s → decode (streamBytes n (begun s)).1 = .ok i [] →
      step s = .next t → ∃ e, s.traceEvent = some e ∧ e.opcode :: e.operands = (streamBytes n (begun s)).1 ∧
      e.a = t.a ∧ e.x = t.x ∧ e.y = t.y ∧ e.sp = t.sp ∧ e.p = t.p ∧ e.pc = t.pc ∧ e.cycles = t.cycles) ∧
    ∀ (s : State) (r : Fault), step s = .fault r → s.traceEvent = none
end

