-- ==== Sys2Proof/Laws/State.lean ====
section
/-! SUPPORT. One lemma for each field of State under each named update. -/

namespace Sys2Proof.Machine

variable (s : State)

@[simp] theorem State.setP_a (v : Byte) : (s.setP v).a = s.a := rfl
@[simp] theorem State.setP_x (v : Byte) : (s.setP v).x = s.x := rfl
@[simp] theorem State.setP_y (v : Byte) : (s.setP v).y = s.y := rfl
@[simp] theorem State.setP_sp (v : Byte) : (s.setP v).sp = s.sp := rfl
@[simp] theorem State.setP_p (v : Byte) : (s.setP v).p = hardwireP v := rfl
@[simp] theorem State.setP_pc (v : Byte) : (s.setP v).pc = s.pc := rfl
@[simp] theorem State.setP_storage (v : Byte) : (s.setP v).storage = s.storage := rfl
@[simp] theorem State.setP_halted (v : Byte) : (s.setP v).halted = s.halted := rfl
@[simp] theorem State.setP_banksLoaded (v : Byte) : (s.setP v).banksLoaded = s.banksLoaded := rfl
@[simp] theorem State.setP_config (v : Byte) : (s.setP v).config = s.config := rfl
@[simp] theorem State.setP_nmiPending (v : Byte) : (s.setP v).nmiPending = s.nmiPending := rfl
@[simp] theorem State.setP_irqLine (v : Byte) : (s.setP v).irqLine = s.irqLine := rfl
@[simp] theorem State.setP_started (v : Byte) : (s.setP v).started = s.started := rfl
@[simp] theorem State.setP_periphReads (v : Byte) : (s.setP v).periphReads = s.periphReads := rfl
@[simp] theorem State.setP_portCalls (v : Byte) : (s.setP v).portCalls = s.portCalls := rfl
@[simp] theorem State.setP_cycles (v : Byte) : (s.setP v).cycles = s.cycles := rfl

@[simp] theorem State.setFlag_a (f : Flag) (b : Bool) : (s.setFlag f b).a = s.a := rfl
@[simp] theorem State.setFlag_x (f : Flag) (b : Bool) : (s.setFlag f b).x = s.x := rfl
@[simp] theorem State.setFlag_y (f : Flag) (b : Bool) : (s.setFlag f b).y = s.y := rfl
@[simp] theorem State.setFlag_sp (f : Flag) (b : Bool) : (s.setFlag f b).sp = s.sp := rfl
@[simp] theorem State.setFlag_pc (f : Flag) (b : Bool) : (s.setFlag f b).pc = s.pc := rfl
@[simp] theorem State.setFlag_storage (f : Flag) (b : Bool) : (s.setFlag f b).storage = s.storage := rfl
@[simp] theorem State.setFlag_halted (f : Flag) (b : Bool) : (s.setFlag f b).halted = s.halted := rfl
@[simp] theorem State.setFlag_banksLoaded (f : Flag) (b : Bool) : (s.setFlag f b).banksLoaded = s.banksLoaded := rfl
@[simp] theorem State.setFlag_config (f : Flag) (b : Bool) : (s.setFlag f b).config = s.config := rfl
@[simp] theorem State.setFlag_nmiPending (f : Flag) (b : Bool) : (s.setFlag f b).nmiPending = s.nmiPending := rfl
@[simp] theorem State.setFlag_irqLine (f : Flag) (b : Bool) : (s.setFlag f b).irqLine = s.irqLine := rfl
@[simp] theorem State.setFlag_started (f : Flag) (b : Bool) : (s.setFlag f b).started = s.started := rfl
@[simp] theorem State.setFlag_periphReads (f : Flag) (b : Bool) : (s.setFlag f b).periphReads = s.periphReads := rfl
@[simp] theorem State.setFlag_portCalls (f : Flag) (b : Bool) : (s.setFlag f b).portCalls = s.portCalls := rfl
@[simp] theorem State.setFlag_cycles (f : Flag) (b : Bool) : (s.setFlag f b).cycles = s.cycles := rfl

@[simp] theorem State.setNZ_a (v : Byte) : (s.setNZ v).a = s.a := rfl
@[simp] theorem State.setNZ_x (v : Byte) : (s.setNZ v).x = s.x := rfl
@[simp] theorem State.setNZ_y (v : Byte) : (s.setNZ v).y = s.y := rfl
@[simp] theorem State.setNZ_sp (v : Byte) : (s.setNZ v).sp = s.sp := rfl
@[simp] theorem State.setNZ_pc (v : Byte) : (s.setNZ v).pc = s.pc := rfl
@[simp] theorem State.setNZ_storage (v : Byte) : (s.setNZ v).storage = s.storage := rfl
@[simp] theorem State.setNZ_halted (v : Byte) : (s.setNZ v).halted = s.halted := rfl
@[simp] theorem State.setNZ_banksLoaded (v : Byte) : (s.setNZ v).banksLoaded = s.banksLoaded := rfl
@[simp] theorem State.setNZ_config (v : Byte) : (s.setNZ v).config = s.config := rfl
@[simp] theorem State.setNZ_nmiPending (v : Byte) : (s.setNZ v).nmiPending = s.nmiPending := rfl
@[simp] theorem State.setNZ_irqLine (v : Byte) : (s.setNZ v).irqLine = s.irqLine := rfl
@[simp] theorem State.setNZ_started (v : Byte) : (s.setNZ v).started = s.started := rfl
@[simp] theorem State.setNZ_periphReads (v : Byte) : (s.setNZ v).periphReads = s.periphReads := rfl
@[simp] theorem State.setNZ_portCalls (v : Byte) : (s.setNZ v).portCalls = s.portCalls := rfl
@[simp] theorem State.setNZ_cycles (v : Byte) : (s.setNZ v).cycles = s.cycles := rfl

@[simp] theorem State.setA_a (v : Byte) : (s.setA v).a = v := rfl
@[simp] theorem State.setA_x (v : Byte) : (s.setA v).x = s.x := rfl
@[simp] theorem State.setA_y (v : Byte) : (s.setA v).y = s.y := rfl
@[simp] theorem State.setA_sp (v : Byte) : (s.setA v).sp = s.sp := rfl
@[simp] theorem State.setA_p (v : Byte) : (s.setA v).p = (s.setNZ v).p := rfl
@[simp] theorem State.setA_pc (v : Byte) : (s.setA v).pc = s.pc := rfl
@[simp] theorem State.setA_storage (v : Byte) : (s.setA v).storage = s.storage := rfl
@[simp] theorem State.setA_halted (v : Byte) : (s.setA v).halted = s.halted := rfl
@[simp] theorem State.setA_banksLoaded (v : Byte) : (s.setA v).banksLoaded = s.banksLoaded := rfl
@[simp] theorem State.setA_config (v : Byte) : (s.setA v).config = s.config := rfl
@[simp] theorem State.setA_nmiPending (v : Byte) : (s.setA v).nmiPending = s.nmiPending := rfl
@[simp] theorem State.setA_irqLine (v : Byte) : (s.setA v).irqLine = s.irqLine := rfl
@[simp] theorem State.setA_started (v : Byte) : (s.setA v).started = s.started := rfl
@[simp] theorem State.setA_periphReads (v : Byte) : (s.setA v).periphReads = s.periphReads := rfl
@[simp] theorem State.setA_portCalls (v : Byte) : (s.setA v).portCalls = s.portCalls := rfl
@[simp] theorem State.setA_cycles (v : Byte) : (s.setA v).cycles = s.cycles := rfl

@[simp] theorem State.setX_a (v : Byte) : (s.setX v).a = s.a := rfl
@[simp] theorem State.setX_x (v : Byte) : (s.setX v).x = v := rfl
@[simp] theorem State.setX_y (v : Byte) : (s.setX v).y = s.y := rfl
@[simp] theorem State.setX_sp (v : Byte) : (s.setX v).sp = s.sp := rfl
@[simp] theorem State.setX_p (v : Byte) : (s.setX v).p = (s.setNZ v).p := rfl
@[simp] theorem State.setX_pc (v : Byte) : (s.setX v).pc = s.pc := rfl
@[simp] theorem State.setX_storage (v : Byte) : (s.setX v).storage = s.storage := rfl
@[simp] theorem State.setX_halted (v : Byte) : (s.setX v).halted = s.halted := rfl
@[simp] theorem State.setX_banksLoaded (v : Byte) : (s.setX v).banksLoaded = s.banksLoaded := rfl
@[simp] theorem State.setX_config (v : Byte) : (s.setX v).config = s.config := rfl
@[simp] theorem State.setX_nmiPending (v : Byte) : (s.setX v).nmiPending = s.nmiPending := rfl
@[simp] theorem State.setX_irqLine (v : Byte) : (s.setX v).irqLine = s.irqLine := rfl
@[simp] theorem State.setX_started (v : Byte) : (s.setX v).started = s.started := rfl
@[simp] theorem State.setX_periphReads (v : Byte) : (s.setX v).periphReads = s.periphReads := rfl
@[simp] theorem State.setX_portCalls (v : Byte) : (s.setX v).portCalls = s.portCalls := rfl
@[simp] theorem State.setX_cycles (v : Byte) : (s.setX v).cycles = s.cycles := rfl

@[simp] theorem State.setY_a (v : Byte) : (s.setY v).a = s.a := rfl
@[simp] theorem State.setY_x (v : Byte) : (s.setY v).x = s.x := rfl
@[simp] theorem State.setY_y (v : Byte) : (s.setY v).y = v := rfl
@[simp] theorem State.setY_sp (v : Byte) : (s.setY v).sp = s.sp := rfl
@[simp] theorem State.setY_p (v : Byte) : (s.setY v).p = (s.setNZ v).p := rfl
@[simp] theorem State.setY_pc (v : Byte) : (s.setY v).pc = s.pc := rfl
@[simp] theorem State.setY_storage (v : Byte) : (s.setY v).storage = s.storage := rfl
@[simp] theorem State.setY_halted (v : Byte) : (s.setY v).halted = s.halted := rfl
@[simp] theorem State.setY_banksLoaded (v : Byte) : (s.setY v).banksLoaded = s.banksLoaded := rfl
@[simp] theorem State.setY_config (v : Byte) : (s.setY v).config = s.config := rfl
@[simp] theorem State.setY_nmiPending (v : Byte) : (s.setY v).nmiPending = s.nmiPending := rfl
@[simp] theorem State.setY_irqLine (v : Byte) : (s.setY v).irqLine = s.irqLine := rfl
@[simp] theorem State.setY_started (v : Byte) : (s.setY v).started = s.started := rfl
@[simp] theorem State.setY_periphReads (v : Byte) : (s.setY v).periphReads = s.periphReads := rfl
@[simp] theorem State.setY_portCalls (v : Byte) : (s.setY v).portCalls = s.portCalls := rfl
@[simp] theorem State.setY_cycles (v : Byte) : (s.setY v).cycles = s.cycles := rfl

@[simp] theorem State.setSp_a (lo : Byte) : (s.setSp lo).a = s.a := rfl
@[simp] theorem State.setSp_x (lo : Byte) : (s.setSp lo).x = s.x := rfl
@[simp] theorem State.setSp_y (lo : Byte) : (s.setSp lo).y = s.y := rfl
@[simp] theorem State.setSp_sp (lo : Byte) : (s.setSp lo).sp = 0x0100#16 ||| zext16 lo := rfl
@[simp] theorem State.setSp_p (lo : Byte) : (s.setSp lo).p = s.p := rfl
@[simp] theorem State.setSp_pc (lo : Byte) : (s.setSp lo).pc = s.pc := rfl
@[simp] theorem State.setSp_storage (lo : Byte) : (s.setSp lo).storage = s.storage := rfl
@[simp] theorem State.setSp_halted (lo : Byte) : (s.setSp lo).halted = s.halted := rfl
@[simp] theorem State.setSp_banksLoaded (lo : Byte) : (s.setSp lo).banksLoaded = s.banksLoaded := rfl
@[simp] theorem State.setSp_config (lo : Byte) : (s.setSp lo).config = s.config := rfl
@[simp] theorem State.setSp_nmiPending (lo : Byte) : (s.setSp lo).nmiPending = s.nmiPending := rfl
@[simp] theorem State.setSp_irqLine (lo : Byte) : (s.setSp lo).irqLine = s.irqLine := rfl
@[simp] theorem State.setSp_started (lo : Byte) : (s.setSp lo).started = s.started := rfl
@[simp] theorem State.setSp_periphReads (lo : Byte) : (s.setSp lo).periphReads = s.periphReads := rfl
@[simp] theorem State.setSp_portCalls (lo : Byte) : (s.setSp lo).portCalls = s.portCalls := rfl
@[simp] theorem State.setSp_cycles (lo : Byte) : (s.setSp lo).cycles = s.cycles := rfl

@[simp] theorem State.setByte_a (i : Nat) (v : Byte) : (s.setByte i v).a = s.a := rfl
@[simp] theorem State.setByte_x (i : Nat) (v : Byte) : (s.setByte i v).x = s.x := rfl
@[simp] theorem State.setByte_y (i : Nat) (v : Byte) : (s.setByte i v).y = s.y := rfl
@[simp] theorem State.setByte_sp (i : Nat) (v : Byte) : (s.setByte i v).sp = s.sp := rfl
@[simp] theorem State.setByte_p (i : Nat) (v : Byte) : (s.setByte i v).p = s.p := rfl
@[simp] theorem State.setByte_pc (i : Nat) (v : Byte) : (s.setByte i v).pc = s.pc := rfl
@[simp] theorem State.setByte_storage (i : Nat) (v : Byte) : (s.setByte i v).storage = s.storage.write i v := rfl
@[simp] theorem State.setByte_halted (i : Nat) (v : Byte) : (s.setByte i v).halted = s.halted := rfl
@[simp] theorem State.setByte_banksLoaded (i : Nat) (v : Byte) : (s.setByte i v).banksLoaded = s.banksLoaded := rfl
@[simp] theorem State.setByte_config (i : Nat) (v : Byte) : (s.setByte i v).config = s.config := rfl
@[simp] theorem State.setByte_nmiPending (i : Nat) (v : Byte) : (s.setByte i v).nmiPending = s.nmiPending := rfl
@[simp] theorem State.setByte_irqLine (i : Nat) (v : Byte) : (s.setByte i v).irqLine = s.irqLine := rfl
@[simp] theorem State.setByte_started (i : Nat) (v : Byte) : (s.setByte i v).started = s.started := rfl
@[simp] theorem State.setByte_periphReads (i : Nat) (v : Byte) : (s.setByte i v).periphReads = s.periphReads := rfl
@[simp] theorem State.setByte_portCalls (i : Nat) (v : Byte) : (s.setByte i v).portCalls = s.portCalls := rfl
@[simp] theorem State.setByte_cycles (i : Nat) (v : Byte) : (s.setByte i v).cycles = s.cycles := rfl

@[simp] theorem State.charge_a (n : Nat) : (s.charge n).a = s.a := rfl
@[simp] theorem State.charge_x (n : Nat) : (s.charge n).x = s.x := rfl
@[simp] theorem State.charge_y (n : Nat) : (s.charge n).y = s.y := rfl
@[simp] theorem State.charge_sp (n : Nat) : (s.charge n).sp = s.sp := rfl
@[simp] theorem State.charge_p (n : Nat) : (s.charge n).p = s.p := rfl
@[simp] theorem State.charge_pc (n : Nat) : (s.charge n).pc = s.pc := rfl
@[simp] theorem State.charge_storage (n : Nat) : (s.charge n).storage = s.storage := rfl
@[simp] theorem State.charge_halted (n : Nat) : (s.charge n).halted = s.halted := rfl
@[simp] theorem State.charge_banksLoaded (n : Nat) : (s.charge n).banksLoaded = s.banksLoaded := rfl
@[simp] theorem State.charge_config (n : Nat) : (s.charge n).config = s.config := rfl
@[simp] theorem State.charge_nmiPending (n : Nat) : (s.charge n).nmiPending = s.nmiPending := rfl
@[simp] theorem State.charge_irqLine (n : Nat) : (s.charge n).irqLine = s.irqLine := rfl
@[simp] theorem State.charge_started (n : Nat) : (s.charge n).started = s.started := rfl
@[simp] theorem State.charge_periphReads (n : Nat) : (s.charge n).periphReads = s.periphReads := rfl
@[simp] theorem State.charge_portCalls (n : Nat) : (s.charge n).portCalls = s.portCalls := rfl
@[simp] theorem State.charge_cycles (n : Nat) : (s.charge n).cycles = n := rfl

@[simp] theorem State.beginStep_a : (s.beginStep).a = s.a := rfl
@[simp] theorem State.beginStep_x : (s.beginStep).x = s.x := rfl
@[simp] theorem State.beginStep_y : (s.beginStep).y = s.y := rfl
@[simp] theorem State.beginStep_sp : (s.beginStep).sp = s.sp := rfl
@[simp] theorem State.beginStep_p : (s.beginStep).p = s.p := rfl
@[simp] theorem State.beginStep_pc : (s.beginStep).pc = s.pc := rfl
@[simp] theorem State.beginStep_storage : (s.beginStep).storage = s.storage := rfl
@[simp] theorem State.beginStep_halted : (s.beginStep).halted = s.halted := rfl
@[simp] theorem State.beginStep_banksLoaded : (s.beginStep).banksLoaded = s.banksLoaded := rfl
@[simp] theorem State.beginStep_config : (s.beginStep).config = s.config := rfl
@[simp] theorem State.beginStep_nmiPending : (s.beginStep).nmiPending = s.nmiPending := rfl
@[simp] theorem State.beginStep_irqLine : (s.beginStep).irqLine = s.irqLine := rfl
@[simp] theorem State.beginStep_started : (s.beginStep).started = true := rfl
@[simp] theorem State.beginStep_periphReads : (s.beginStep).periphReads = s.periphReads := rfl
@[simp] theorem State.beginStep_portCalls : (s.beginStep).portCalls = [] := rfl
@[simp] theorem State.beginStep_cycles : (s.beginStep).cycles = 0 := rfl

end Sys2Proof.Machine
end

