-- ==== Sys2Proof/Laws/Flags.lean ====
section
/-! SUPPORT. What reading a flag gives after each operation that writes the status register. -/

namespace Sys2Proof.Machine

/-- A flag after a write of `P`: `U` reads 1, `B` is 0, every other flag is its bit of the byte written. -/
theorem State.flag_setP (s : State) (v : Byte) (f : Flag) :
    (s.setP v).flag f = if f = .u then true else if f = .b then false else v.getLsbD f.bit := by
  cases f <;> simp [State.flag, hardwireP, Flag.bit]

@[simp] theorem State.flag_u_setP (s : State) (v : Byte) : (s.setP v).flag .u = true := by
  simp [State.flag_setP]

@[simp] theorem State.flag_b_setP (s : State) (v : Byte) : (s.setP v).flag .b = false := by
  simp [State.flag_setP]

/-- A flag after a write of one flag. -/
theorem State.flag_setFlag (s : State) (f g : Flag) (b : Bool) :
    (s.setFlag f b).flag g = if g = .u then true else if g = .b then false else if g = f then b else s.flag g := by
  cases b <;> cases f <;> cases g <;> simp [State.setFlag, hardwireP, Flag.bit, Flag.mask, State.flag]

@[simp] theorem State.flag_setFlag_same (s : State) (f : Flag) (b : Bool) (hu : f ≠ .u) (hb : f ≠ .b) :
    (s.setFlag f b).flag f = b := by
  simp [State.flag_setFlag, hu, hb]

theorem State.flag_setFlag_other (s : State) (f g : Flag) (b : Bool) (h : g ≠ f) (hu : g ≠ .u) (hb : g ≠ .b) :
    (s.setFlag f b).flag g = s.flag g := by
  simp [State.flag_setFlag, h, hu, hb]

/-- A flag after `SetNZ`. -/
theorem State.flag_setNZ (s : State) (v : Byte) (g : Flag) :
    (s.setNZ v).flag g =
      if g = .u then true else if g = .b then false else if g = .n then v.msb
      else if g = .z then v == 0#8 else s.flag g := by
  cases g <;> simp [State.setNZ, State.flag_setFlag]

/-- `P` is what its flags say, once `U` reads 1 and `B` is 0. -/
theorem eq_statusByte : ∀ p : Byte, p.getLsbD 5 = true → p.getLsbD 4 = false →
    p = statusByte (p.getLsbD 7) (p.getLsbD 6) (p.getLsbD 3) (p.getLsbD 2) (p.getLsbD 1) (p.getLsbD 0) := by
  decide

/-- The byte `P` holds after a write, by its flags. -/
theorem State.setP_eq_statusByte (s : State) (v : Byte) :
    (s.setP v).p =
      statusByte (v.getLsbD 7) (v.getLsbD 6) (v.getLsbD 3) (v.getLsbD 2) (v.getLsbD 1) (v.getLsbD 0) := by
  have h := eq_statusByte (s.setP v).p (State.flag_u_setP s v) (State.flag_b_setP s v)
  rw [h]
  have f (g : Flag) := State.flag_setP s v g
  simp only [State.flag] at f
  have hn := f .n; have hv := f .v; have hd := f .d; have hi := f .i; have hz := f .z; have hc := f .c
  simp [Flag.bit] at hn hv hd hi hz hc
  simp [hn, hv, hd, hi, hz, hc]

/-- The byte `P` holds after a write of one flag. -/
theorem State.setFlag_p (s : State) (f : Flag) (b : Bool) :
    (s.setFlag f b).p =
      statusByte (if f = .n then b else s.flag .n) (if f = .v then b else s.flag .v)
        (if f = .d then b else s.flag .d) (if f = .i then b else s.flag .i) (if f = .z then b else s.flag .z)
        (if f = .c then b else s.flag .c) := by
  unfold State.setFlag
  rw [State.setP_eq_statusByte]
  cases b <;> cases f <;> simp [Flag.mask, Flag.bit, State.flag]

/-- The byte `P` holds after `SetNZ`. -/
theorem State.setNZ_p (s : State) (v : Byte) :
    (s.setNZ v).p = statusByte v.msb (s.flag .v) (s.flag .d) (s.flag .i) (v == 0#8) (s.flag .c) := by
  simp [State.setNZ, State.setFlag_p, State.flag_setFlag]

/-- A write of one flag, all of it. -/
theorem State.setFlag_eq (s : State) (f : Flag) (b : Bool) :
    s.setFlag f b =
      { s with
        p := statusByte (if f = .n then b else s.flag .n) (if f = .v then b else s.flag .v)
          (if f = .d then b else s.flag .d) (if f = .i then b else s.flag .i) (if f = .z then b else s.flag .z)
          (if f = .c then b else s.flag .c) } := by
  rw [← State.setFlag_p]; rfl

/-- `SetNZ`, all of it. -/
theorem State.setNZ_eq (s : State) (v : Byte) :
    s.setNZ v =
      { s with p := statusByte v.msb (s.flag .v) (s.flag .d) (s.flag .i) (v == 0#8) (s.flag .c) } := by
  rw [← State.setNZ_p]; rfl

/-- The overflow of the adder, as the sign of the spec's expression (R28). -/
theorem add8_overflow (a b : Byte) (cin : Bool) :
    (add8 a b cin).overflow = (~~~(a ^^^ b) &&& (a ^^^ (add8 a b cin).value)).msb := by
  have h : ∀ w : Byte, ((w &&& 0x80#8) != 0#8) = w.msb := by decide
  exact h _

/-- Adding to `A`, all of it (R114). -/
theorem State.addToA_eq (s : State) (b : Byte) :
    s.addToA b =
      let r := add8 s.a b (s.flag .c)
      { s with
        a := r.value
        p := statusByte r.value.msb r.overflow (s.flag .d) (s.flag .i) (r.value == 0#8) r.carry } := by
  have h : (s.addToA b).p = statusByte (add8 s.a b (s.flag .c)).value.msb (add8 s.a b (s.flag .c)).overflow
      (s.flag .d) (s.flag .i) ((add8 s.a b (s.flag .c)).value == 0#8) (add8 s.a b (s.flag .c)).carry := by
    simp only [State.addToA, State.setFlag_p, State.flag_setFlag, State.flag_setNZ]
    simp; rfl
  simp only [← h]; rfl

/-- A comparison, all of it (R113). -/
theorem State.compare_eq (s : State) (r m : Byte) :
    s.compare r m =
      { s with
        p := statusByte (r - m).msb (s.flag .v) (s.flag .d) (s.flag .i) (r == m)
          (decide (m.toNat ≤ r.toNat)) } := by
  have h : (s.compare r m).p = statusByte (r - m).msb (s.flag .v) (s.flag .d) (s.flag .i) (r == m)
      (decide (m.toNat ≤ r.toNat)) := by
    simp [State.compare, State.setFlag_p, State.flag_setFlag]
  rw [← h]; rfl

/-- A flag after adding to `A`. -/
theorem State.flag_addToA (s : State) (b : Byte) (g : Flag) :
    (s.addToA b).flag g =
      let r := add8 s.a b (s.flag .c)
      if g = .u then true else if g = .b then false else if g = .n then r.value.msb
      else if g = .z then r.value == 0#8 else if g = .v then r.overflow else if g = .c then r.carry
      else s.flag g := by
  cases g <;> simp [State.addToA, State.flag_setFlag, State.flag_setNZ] <;> rfl

/-- A flag after a comparison. -/
theorem State.flag_compare (s : State) (r m : Byte) (g : Flag) :
    (s.compare r m).flag g =
      if g = .u then true else if g = .b then false else if g = .n then (r - m).msb
      else if g = .z then r == m else if g = .c then decide (m.toNat ≤ r.toNat) else s.flag g := by
  cases g <;> simp [State.compare, State.flag_setFlag]

theorem State.flag_setA (s : State) (v : Byte) (g : Flag) : (s.setA v).flag g = (s.setNZ v).flag g := rfl
theorem State.flag_setX (s : State) (v : Byte) (g : Flag) : (s.setX v).flag g = (s.setNZ v).flag g := rfl
theorem State.flag_setY (s : State) (v : Byte) (g : Flag) : (s.setY v).flag g = (s.setNZ v).flag g := rfl

@[simp] theorem State.addToA_a (s : State) (b : Byte) : (s.addToA b).a = (add8 s.a b (s.flag .c)).value := rfl
@[simp] theorem State.addToA_x (s : State) (b : Byte) : (s.addToA b).x = s.x := rfl
@[simp] theorem State.addToA_y (s : State) (b : Byte) : (s.addToA b).y = s.y := rfl
@[simp] theorem State.addToA_sp (s : State) (b : Byte) : (s.addToA b).sp = s.sp := rfl
@[simp] theorem State.addToA_pc (s : State) (b : Byte) : (s.addToA b).pc = s.pc := rfl
@[simp] theorem State.addToA_storage (s : State) (b : Byte) : (s.addToA b).storage = s.storage := rfl
@[simp] theorem State.addToA_halted (s : State) (b : Byte) : (s.addToA b).halted = s.halted := rfl
@[simp] theorem State.addToA_banksLoaded (s : State) (b : Byte) : (s.addToA b).banksLoaded = s.banksLoaded := rfl
@[simp] theorem State.addToA_config (s : State) (b : Byte) : (s.addToA b).config = s.config := rfl
@[simp] theorem State.addToA_nmiPending (s : State) (b : Byte) : (s.addToA b).nmiPending = s.nmiPending := rfl
@[simp] theorem State.addToA_irqLine (s : State) (b : Byte) : (s.addToA b).irqLine = s.irqLine := rfl
@[simp] theorem State.addToA_started (s : State) (b : Byte) : (s.addToA b).started = s.started := rfl
@[simp] theorem State.addToA_periphReads (s : State) (b : Byte) : (s.addToA b).periphReads = s.periphReads := rfl
@[simp] theorem State.addToA_portCalls (s : State) (b : Byte) : (s.addToA b).portCalls = s.portCalls := rfl
@[simp] theorem State.addToA_cycles (s : State) (b : Byte) : (s.addToA b).cycles = s.cycles := rfl
@[simp] theorem State.compare_a (s : State) (r m : Byte) : (s.compare r m).a = s.a := rfl
@[simp] theorem State.compare_x (s : State) (r m : Byte) : (s.compare r m).x = s.x := rfl
@[simp] theorem State.compare_y (s : State) (r m : Byte) : (s.compare r m).y = s.y := rfl
@[simp] theorem State.compare_sp (s : State) (r m : Byte) : (s.compare r m).sp = s.sp := rfl
@[simp] theorem State.compare_pc (s : State) (r m : Byte) : (s.compare r m).pc = s.pc := rfl
@[simp] theorem State.compare_storage (s : State) (r m : Byte) : (s.compare r m).storage = s.storage := rfl
@[simp] theorem State.compare_halted (s : State) (r m : Byte) : (s.compare r m).halted = s.halted := rfl
@[simp] theorem State.compare_banksLoaded (s : State) (r m : Byte) : (s.compare r m).banksLoaded = s.banksLoaded := rfl
@[simp] theorem State.compare_config (s : State) (r m : Byte) : (s.compare r m).config = s.config := rfl
@[simp] theorem State.compare_nmiPending (s : State) (r m : Byte) : (s.compare r m).nmiPending = s.nmiPending := rfl
@[simp] theorem State.compare_irqLine (s : State) (r m : Byte) : (s.compare r m).irqLine = s.irqLine := rfl
@[simp] theorem State.compare_started (s : State) (r m : Byte) : (s.compare r m).started = s.started := rfl
@[simp] theorem State.compare_periphReads (s : State) (r m : Byte) : (s.compare r m).periphReads = s.periphReads := rfl
@[simp] theorem State.compare_portCalls (s : State) (r m : Byte) : (s.compare r m).portCalls = s.portCalls := rfl
@[simp] theorem State.compare_cycles (s : State) (r m : Byte) : (s.compare r m).cycles = s.cycles := rfl

end Sys2Proof.Machine
end

