-- ==== Sys2Proof/Laws/Memory.lean ====
section
/-! SUPPORT. What Storage, the translation and the bus primitives do, said once for each. -/

namespace Sys2Proof.Machine

/-! ### Storage as a list -/

@[simp] theorem Memory.lookup_write_same (m : Memory) (i : Nat) (v : Byte) :
    (m.write i v).lookup i = some v := by
  induction m with
  | nil => simp [Memory.write, Memory.lookup]
  | cons c rest ih =>
    simp only [Memory.write]
    split <;> [skip; split] <;> simp [Memory.lookup, *]

theorem Memory.lookup_write_other (m : Memory) (i j : Nat) (v : Byte) (h : j ≠ i) :
    (m.write i v).lookup j = m.lookup j := by
  induction m with
  | nil => simp [Memory.write, Memory.lookup, h]
  | cons c rest ih =>
    simp only [Memory.write]
    split <;> [skip; split] <;> simp_all [Memory.lookup]

/-- Every cell of a written memory is the written one or was there before. -/
theorem Memory.mem_write (m : Memory) (i : Nat) (v : Byte) (c : Host.Cell) (h : c ∈ m.write i v) :
    c = (i, v) ∨ c ∈ m := by
  induction m with
  | nil => simpa [Memory.write] using h
  | cons d rest ih =>
    simp only [Memory.write] at h
    split at h <;> [skip; split at h] <;> simp_all <;> tauto

/-- A write keeps the canonical form. -/
theorem Memory.wf_write (m : Memory) (i : Nat) (v : Byte) (hm : Memory.wf m) (hi : i < 0x10000) :
    Memory.wf (m.write i v) := by
  refine ⟨?_, fun c hc => ?_⟩
  · obtain ⟨hp, -⟩ := hm
    induction m with
    | nil => simp [Memory.write]
    | cons d rest ih =>
      rw [List.pairwise_cons] at hp
      simp only [Memory.write]
      split
      · refine List.pairwise_cons.2 ⟨fun c hc => ?_, List.pairwise_cons.2 hp⟩
        rcases List.mem_cons.1 hc with rfl | hc
        · assumption
        · exact Nat.lt_trans ‹_› (hp.1 c hc)
      · split
        · exact List.pairwise_cons.2 ⟨fun c hc => ‹i = d.1› ▸ hp.1 c hc, hp.2⟩
        · refine List.pairwise_cons.2 ⟨fun c hc => ?_, ih hp.2⟩
          rcases Memory.mem_write rest i v c hc with rfl | hc
          · simp only; omega
          · exact hp.1 c hc
  · rcases Memory.mem_write m i v c hc with rfl | hc
    · exact hi
    · exact hm.2 c hc

/-- Copying a list of bytes keeps the canonical form, if it ends inside Storage. -/
theorem Memory.wf_writeBytes (vs : List Byte) (m : Memory) (i : Nat) (hm : Memory.wf m)
    (hi : i + vs.length ≤ 0x10000) : Memory.wf (m.writeBytes i vs) := by
  induction vs generalizing m i with
  | nil => exact hm
  | cons v vs ih =>
    simp only [List.length_cons] at hi
    exact ih _ _ (Memory.wf_write m i v hm (by omega)) (by omega)

/-- What a copied list of bytes leaves at each index. -/
theorem Memory.lookup_writeBytes (vs : List Byte) (m : Memory) (i j : Nat) :
    (m.writeBytes i vs).lookup j = if i ≤ j then (vs[j - i]?).or (m.lookup j) else m.lookup j := by
  induction vs generalizing m i with
  | nil => simp [Memory.writeBytes]
  | cons v vs ih =>
    rw [Memory.writeBytes, ih]
    by_cases h : j = i
    · subst h; simp
    · rw [Memory.lookup_write_other _ _ _ _ h]
      by_cases hij : i ≤ j
      · have : i + 1 ≤ j := by omega
        simp only [this, hij, if_true]
        rw [show j - i = (j - (i + 1)) + 1 by omega, List.getElem?_cons_succ]
      · simp [hij, show ¬ i + 1 ≤ j by omega]

/-! ### Storage bytes -/

@[simp] theorem State.byteAt_setByte_same (s : State) (i : Nat) (v : Byte) : (s.setByte i v).byteAt i = v := by
  simp [State.byteAt]

theorem State.byteAt_setByte_other (s : State) (i j : Nat) (v : Byte) (h : j ≠ i) :
    (s.setByte i v).byteAt j = s.byteAt j := by
  simp [State.byteAt, Memory.lookup_write_other _ _ _ _ h]

/-- A Storage byte depends on Storage alone. -/
theorem State.byteAt_congr (s t : State) (h : s.storage = t.storage) (i : Nat) : s.byteAt i = t.byteAt i := by
  simp [State.byteAt, h]

/-! ### Translation -/

theorem translate_toNat (a : Word) :
    (translate a).toNat =
      if a.toNat ≤ 0x1FFF then a.toNat % 0x800
      else if a.toNat ≤ 0x3FFF then 0x2000 + a.toNat % 8 else a.toNat := by
  have low (n k : Nat) : n &&& (2 ^ k - 1) = n % 2 ^ k := Nat.and_two_pow_sub_one_eq_mod n k
  unfold translate
  simp only [BitVec.le_def, BitVec.toNat_ofNat]
  split
  · simpa using low a.toNat 11
  · split
    · have h := low a.toNat 3
      have hor := Nat.two_pow_add_eq_or_of_lt (i := 13) (b := a.toNat % 8) (by omega) 1
      simp only [BitVec.toNat_or, BitVec.toNat_and, BitVec.toNat_ofNat]
      norm_num at h hor ⊢
      rw [h, ← hor]
    · rfl

/-- Page 0 and page 1 are RAM: they translate to themselves (R34). -/
theorem translate_low (a : Word) (h : a.toNat < 0x800) : translate a = a := by
  apply BitVec.eq_of_toNat_eq
  rw [translate_toNat]
  split <;> omega

theorem isPeriph_iff (t : Word) :
    isPeriph t = true ↔ (0x2000 ≤ t.toNat ∧ t.toNat ≤ 0x2007) ∨ t.toNat = 0x4014 := by
  simp [isPeriph, BitVec.le_def, ← BitVec.toNat_inj]

theorem isPeriph_low (a : Word) (h : a.toNat < 0x800) : isPeriph a = false := by
  rw [← Bool.not_eq_true, isPeriph_iff]
  omega

/-! ### The bus primitives -/

/-- A read outside `PERIPH` gives the Storage byte and has no side effect (R46). -/
theorem State.read8_of_not_periph (s : State) (a : Word) (h : isPeriph (translate a) = false) :
    s.read8 a = (s.byteAt (translate a).toNat, s) := by
  simp [State.read8, h]

/-- A read of `PERIPH` that the shim answers (R45). -/
theorem State.read8_of_shimmed (s : State) (a : Word) (h : isPeriph (translate a) = true)
    (hs : s.shimmed (translate a) = true) : s.read8 a = (s.config.statusShimValue, s) := by
  simp [State.read8, h, hs]

/-- Any other read of `PERIPH` is one `PeripheralRead` (R45, R51). -/
theorem State.read8_of_periph (s : State) (a : Word) (h : isPeriph (translate a) = true)
    (hs : s.shimmed (translate a) = false) : s.read8 a = s.peripheralRead (translate a) := by
  simp [State.read8, h, hs]

/-- All a read can do to the state: nothing, or one more `PeripheralRead` on record. -/
theorem State.read8_state (s : State) (a : Word) :
    (s.read8 a).2 = s ∨ ∃ v,
      (s.read8 a).2 = { s with
        periphReads := s.periphReads + 1
        portCalls := s.portCalls ++ [.peripheralRead (translate a) v] } := by
  unfold State.read8
  simp only
  split
  · split
    · exact .inl rfl
    · exact .inr ⟨_, rfl⟩
  · exact .inl rfl

/-! ### The fields a bus access leaves alone -/

@[simp] theorem State.read8_a (s : State) (a : Word) : (s.read8 a).2.a = s.a := by
  rcases s.read8_state a with h | ⟨v, h⟩ <;> rw [h]
@[simp] theorem State.read8_x (s : State) (a : Word) : (s.read8 a).2.x = s.x := by
  rcases s.read8_state a with h | ⟨v, h⟩ <;> rw [h]
@[simp] theorem State.read8_y (s : State) (a : Word) : (s.read8 a).2.y = s.y := by
  rcases s.read8_state a with h | ⟨v, h⟩ <;> rw [h]
@[simp] theorem State.read8_sp (s : State) (a : Word) : (s.read8 a).2.sp = s.sp := by
  rcases s.read8_state a with h | ⟨v, h⟩ <;> rw [h]
@[simp] theorem State.read8_p (s : State) (a : Word) : (s.read8 a).2.p = s.p := by
  rcases s.read8_state a with h | ⟨v, h⟩ <;> rw [h]
@[simp] theorem State.read8_pc (s : State) (a : Word) : (s.read8 a).2.pc = s.pc := by
  rcases s.read8_state a with h | ⟨v, h⟩ <;> rw [h]
@[simp] theorem State.read8_storage (s : State) (a : Word) : (s.read8 a).2.storage = s.storage := by
  rcases s.read8_state a with h | ⟨v, h⟩ <;> rw [h]
@[simp] theorem State.read8_halted (s : State) (a : Word) : (s.read8 a).2.halted = s.halted := by
  rcases s.read8_state a with h | ⟨v, h⟩ <;> rw [h]
@[simp] theorem State.read8_banksLoaded (s : State) (a : Word) : (s.read8 a).2.banksLoaded = s.banksLoaded := by
  rcases s.read8_state a with h | ⟨v, h⟩ <;> rw [h]
@[simp] theorem State.read8_config (s : State) (a : Word) : (s.read8 a).2.config = s.config := by
  rcases s.read8_state a with h | ⟨v, h⟩ <;> rw [h]
@[simp] theorem State.read8_nmiPending (s : State) (a : Word) : (s.read8 a).2.nmiPending = s.nmiPending := by
  rcases s.read8_state a with h | ⟨v, h⟩ <;> rw [h]
@[simp] theorem State.read8_irqLine (s : State) (a : Word) : (s.read8 a).2.irqLine = s.irqLine := by
  rcases s.read8_state a with h | ⟨v, h⟩ <;> rw [h]
@[simp] theorem State.read8_started (s : State) (a : Word) : (s.read8 a).2.started = s.started := by
  rcases s.read8_state a with h | ⟨v, h⟩ <;> rw [h]
@[simp] theorem State.read8_cycles (s : State) (a : Word) : (s.read8 a).2.cycles = s.cycles := by
  rcases s.read8_state a with h | ⟨v, h⟩ <;> rw [h]

@[simp] theorem State.read16_a (s : State) (a : Word) : (s.read16 a).2.a = s.a := by
  unfold State.read16 State.read16High; simp only; split <;> simp
@[simp] theorem State.read16_x (s : State) (a : Word) : (s.read16 a).2.x = s.x := by
  unfold State.read16 State.read16High; simp only; split <;> simp
@[simp] theorem State.read16_y (s : State) (a : Word) : (s.read16 a).2.y = s.y := by
  unfold State.read16 State.read16High; simp only; split <;> simp
@[simp] theorem State.read16_sp (s : State) (a : Word) : (s.read16 a).2.sp = s.sp := by
  unfold State.read16 State.read16High; simp only; split <;> simp
@[simp] theorem State.read16_p (s : State) (a : Word) : (s.read16 a).2.p = s.p := by
  unfold State.read16 State.read16High; simp only; split <;> simp
@[simp] theorem State.read16_pc (s : State) (a : Word) : (s.read16 a).2.pc = s.pc := by
  unfold State.read16 State.read16High; simp only; split <;> simp
@[simp] theorem State.read16_storage (s : State) (a : Word) : (s.read16 a).2.storage = s.storage := by
  unfold State.read16 State.read16High; simp only; split <;> simp
@[simp] theorem State.read16_halted (s : State) (a : Word) : (s.read16 a).2.halted = s.halted := by
  unfold State.read16 State.read16High; simp only; split <;> simp
@[simp] theorem State.read16_banksLoaded (s : State) (a : Word) : (s.read16 a).2.banksLoaded = s.banksLoaded := by
  unfold State.read16 State.read16High; simp only; split <;> simp
@[simp] theorem State.read16_config (s : State) (a : Word) : (s.read16 a).2.config = s.config := by
  unfold State.read16 State.read16High; simp only; split <;> simp
@[simp] theorem State.read16_nmiPending (s : State) (a : Word) : (s.read16 a).2.nmiPending = s.nmiPending := by
  unfold State.read16 State.read16High; simp only; split <;> simp
@[simp] theorem State.read16_irqLine (s : State) (a : Word) : (s.read16 a).2.irqLine = s.irqLine := by
  unfold State.read16 State.read16High; simp only; split <;> simp
@[simp] theorem State.read16_started (s : State) (a : Word) : (s.read16 a).2.started = s.started := by
  unfold State.read16 State.read16High; simp only; split <;> simp
@[simp] theorem State.read16_cycles (s : State) (a : Word) : (s.read16 a).2.cycles = s.cycles := by
  unfold State.read16 State.read16High; simp only; split <;> simp

@[simp] theorem State.write8_a (s : State) (a : Word) (v : Byte) : (s.write8 a v).a = s.a := by
  unfold State.write8; simp only; split <;> rfl
@[simp] theorem State.write8_x (s : State) (a : Word) (v : Byte) : (s.write8 a v).x = s.x := by
  unfold State.write8; simp only; split <;> rfl
@[simp] theorem State.write8_y (s : State) (a : Word) (v : Byte) : (s.write8 a v).y = s.y := by
  unfold State.write8; simp only; split <;> rfl
@[simp] theorem State.write8_sp (s : State) (a : Word) (v : Byte) : (s.write8 a v).sp = s.sp := by
  unfold State.write8; simp only; split <;> rfl
@[simp] theorem State.write8_p (s : State) (a : Word) (v : Byte) : (s.write8 a v).p = s.p := by
  unfold State.write8; simp only; split <;> rfl
@[simp] theorem State.write8_pc (s : State) (a : Word) (v : Byte) : (s.write8 a v).pc = s.pc := by
  unfold State.write8; simp only; split <;> rfl
@[simp] theorem State.write8_storage (s : State) (a : Word) (v : Byte) :
    (s.write8 a v).storage = s.storage.write (translate a).toNat v := by
  unfold State.write8; simp only; split <;> rfl
@[simp] theorem State.write8_halted (s : State) (a : Word) (v : Byte) : (s.write8 a v).halted = s.halted := by
  unfold State.write8; simp only; split <;> rfl
@[simp] theorem State.write8_banksLoaded (s : State) (a : Word) (v : Byte) : (s.write8 a v).banksLoaded = s.banksLoaded := by
  unfold State.write8; simp only; split <;> rfl
@[simp] theorem State.write8_config (s : State) (a : Word) (v : Byte) : (s.write8 a v).config = s.config := by
  unfold State.write8; simp only; split <;> rfl
@[simp] theorem State.write8_nmiPending (s : State) (a : Word) (v : Byte) : (s.write8 a v).nmiPending = s.nmiPending := by
  unfold State.write8; simp only; split <;> rfl
@[simp] theorem State.write8_irqLine (s : State) (a : Word) (v : Byte) : (s.write8 a v).irqLine = s.irqLine := by
  unfold State.write8; simp only; split <;> rfl
@[simp] theorem State.write8_started (s : State) (a : Word) (v : Byte) : (s.write8 a v).started = s.started := by
  unfold State.write8; simp only; split <;> rfl
@[simp] theorem State.write8_cycles (s : State) (a : Word) (v : Byte) : (s.write8 a v).cycles = s.cycles := by
  unfold State.write8; simp only; split <;> rfl
@[simp] theorem State.write8_periphReads (s : State) (a : Word) (v : Byte) : (s.write8 a v).periphReads = s.periphReads := by
  unfold State.write8; simp only; split <;> rfl

/-- The one sink call a write makes, or none (R48). -/
theorem State.write8_portCalls (s : State) (a : Word) (v : Byte) :
    (s.write8 a v).portCalls =
      s.portCalls ++ if isPeriph (translate a) then [.registerWrite (translate a) v] else [] := by
  unfold State.write8; simp only; split <;> simp

@[simp] theorem State.byteAt_read8 (s : State) (a : Word) (i : Nat) : (s.read8 a).2.byteAt i = s.byteAt i :=
  State.byteAt_congr _ _ (s.read8_storage a) i

@[simp] theorem State.byteAt_read16 (s : State) (a : Word) (i : Nat) : (s.read16 a).2.byteAt i = s.byteAt i :=
  State.byteAt_congr _ _ (s.read16_storage a) i

@[simp] theorem State.byteAt_write8_same (s : State) (a : Word) (v : Byte) :
    (s.write8 a v).byteAt (translate a).toNat = v := by
  simp [State.byteAt]

theorem State.byteAt_write8_other (s : State) (a : Word) (v : Byte) (i : Nat) (h : i ≠ (translate a).toNat) :
    (s.write8 a v).byteAt i = s.byteAt i := by
  simp [State.byteAt, Memory.lookup_write_other _ _ _ _ h]

end Sys2Proof.Machine
end

