-- ==== Sys2Proof/Laws/Ops.lean ====
section
/-! SUPPORT. What the stack, the fetch, and taking or leaving an exception do, said once for each. -/

namespace Sys2Proof.Machine

/-! ### Bytes and words -/

theorem word_toNat (hi lo : Byte) : (word hi lo).toNat = hi.toNat * 256 + lo.toNat := by
  have h2 := lo.isLt
  simp only [word, BitVec.toNat_append]
  rw [← Nat.shiftLeft_add_eq_or_of_lt h2, Nat.shiftLeft_eq]

theorem lo8_toNat (v : Word) : (lo8 v).toNat = v.toNat % 256 := by simp [lo8]

theorem hi8_toNat (v : Word) : (hi8 v).toNat = v.toNat / 256 := by
  have := v.isLt
  simp [hi8, Nat.shiftRight_eq_div_pow]
  omega

@[simp] theorem lo8_word (hi lo : Byte) : lo8 (word hi lo) = lo := by
  apply BitVec.eq_of_toNat_eq
  have := lo.isLt
  rw [lo8_toNat, word_toNat]
  omega

@[simp] theorem hi8_word (hi lo : Byte) : hi8 (word hi lo) = hi := by
  apply BitVec.eq_of_toNat_eq
  have := lo.isLt
  rw [hi8_toNat, word_toNat]
  omega

/-- A word is made of its two bytes. -/
@[simp] theorem word_hi8_lo8 (v : Word) : word (hi8 v) (lo8 v) = v := by
  apply BitVec.eq_of_toNat_eq
  rw [word_toNat, hi8_toNat, lo8_toNat]
  omega

/-! ### The stack pointer -/

theorem setSp_toNat (lo : Byte) : (0x0100#16 ||| zext16 lo).toNat = 0x100 + lo.toNat := by
  have h := Nat.two_pow_add_eq_or_of_lt (i := 8) (b := lo.toNat) lo.isLt 1
  have hl := lo.isLt
  simp only [zext16, BitVec.toNat_or, BitVec.toNat_setWidth, BitVec.toNat_ofNat]
  norm_num at h ⊢
  rw [Nat.mod_eq_of_lt (by omega), ← h]

/-- `SP` with a low byte, as a word in page 1. -/
theorem setSp_eq_word (lo : Byte) : 0x0100#16 ||| zext16 lo = word 0x01#8 lo := by
  apply BitVec.eq_of_toNat_eq
  rw [setSp_toNat, word_toNat, BitVec.toNat_ofNat]

/-- `SP` is in page 1 whatever byte is put in it (R31). -/
@[simp] theorem hi8_setSp (lo : Byte) : hi8 (0x0100#16 ||| zext16 lo) = 0x01#8 := by
  apply BitVec.eq_of_toNat_eq
  have := lo.isLt
  rw [hi8_toNat, setSp_toNat, BitVec.toNat_ofNat]
  omega

@[simp] theorem lo8_setSp (lo : Byte) : lo8 (0x0100#16 ||| zext16 lo) = lo := by
  apply BitVec.eq_of_toNat_eq
  have := lo.isLt
  rw [lo8_toNat, setSp_toNat]
  omega

/-- A word in page 1 is what its low byte makes it. -/
theorem eq_setSp_of_page_one (v : Word) (h : hi8 v = 0x01#8) : v = 0x0100#16 ||| zext16 (lo8 v) := by
  rw [← word_hi8_lo8 (0x0100#16 ||| zext16 (lo8 v)), hi8_setSp, lo8_setSp, ← h, word_hi8_lo8]

/-- A stack address translates to itself and is no peripheral offset (R34). -/
theorem translate_page_one (v : Word) (h : hi8 v = 0x01#8) : translate v = v := by
  apply translate_low
  have := congrArg BitVec.toNat h
  rw [hi8_toNat, BitVec.toNat_ofNat] at this
  omega

theorem isPeriph_page_one (v : Word) (h : hi8 v = 0x01#8) : isPeriph v = false := by
  apply isPeriph_low
  have := congrArg BitVec.toNat h
  rw [hi8_toNat, BitVec.toNat_ofNat] at this
  omega

/-! ### Push and pull -/

/-- A push, all of it: the byte at `SP`, then `SP` one lower in page 1 (R32). -/
theorem State.push_eq (s : State) (v : Byte) (h : hi8 s.sp = 0x01#8) :
    s.push v = { s with
      storage := s.storage.write s.sp.toNat v
      sp := 0x0100#16 ||| zext16 (lo8 (s.sp - 1)) } := by
  simp [State.push, State.write8, translate_page_one _ h, isPeriph_page_one _ h, State.setSp, State.setByte]

/-- A pull, all of it: `SP` one higher in page 1, then the Storage byte there (R33). -/
theorem State.pull_eq (s : State) :
    s.pull = ((s.byteAt (0x0100#16 ||| zext16 (lo8 (s.sp + 1))).toNat), s.setSp (lo8 (s.sp + 1))) := by
  have h := hi8_setSp (lo8 (s.sp + 1))
  unfold State.pull
  simp only
  rw [State.read8_of_not_periph] <;>
    simp only [State.setSp_sp, translate_page_one _ h, isPeriph_page_one _ h]
  rfl

/-! ### The fields that a push or a pull leaves alone -/

@[simp] theorem State.push_a (s : State) (v : Byte) : (s.push v).a = s.a := by simp [State.push]
@[simp] theorem State.push_x (s : State) (v : Byte) : (s.push v).x = s.x := by simp [State.push]
@[simp] theorem State.push_y (s : State) (v : Byte) : (s.push v).y = s.y := by simp [State.push]
@[simp] theorem State.push_p (s : State) (v : Byte) : (s.push v).p = s.p := by simp [State.push]
@[simp] theorem State.push_pc (s : State) (v : Byte) : (s.push v).pc = s.pc := by simp [State.push]
@[simp] theorem State.push_halted (s : State) (v : Byte) : (s.push v).halted = s.halted := by simp [State.push]
@[simp] theorem State.push_banksLoaded (s : State) (v : Byte) : (s.push v).banksLoaded = s.banksLoaded := by simp [State.push]
@[simp] theorem State.push_config (s : State) (v : Byte) : (s.push v).config = s.config := by simp [State.push]
@[simp] theorem State.push_nmiPending (s : State) (v : Byte) : (s.push v).nmiPending = s.nmiPending := by simp [State.push]
@[simp] theorem State.push_irqLine (s : State) (v : Byte) : (s.push v).irqLine = s.irqLine := by simp [State.push]
@[simp] theorem State.push_started (s : State) (v : Byte) : (s.push v).started = s.started := by simp [State.push]
@[simp] theorem State.push_cycles (s : State) (v : Byte) : (s.push v).cycles = s.cycles := by simp [State.push]
@[simp] theorem State.push_sp (s : State) (v : Byte) :
    (s.push v).sp = 0x0100#16 ||| zext16 (lo8 (s.sp - 1)) := rfl
@[simp] theorem State.push_storage (s : State) (v : Byte) :
    (s.push v).storage = s.storage.write (translate s.sp).toNat v := by simp [State.push]
@[simp] theorem State.push_periphReads (s : State) (v : Byte) : (s.push v).periphReads = s.periphReads := by
  simp [State.push]

@[simp] theorem State.pull_a (s : State) : s.pull.2.a = s.a := by simp [State.pull_eq]
@[simp] theorem State.pull_x (s : State) : s.pull.2.x = s.x := by simp [State.pull_eq]
@[simp] theorem State.pull_y (s : State) : s.pull.2.y = s.y := by simp [State.pull_eq]
@[simp] theorem State.pull_p (s : State) : s.pull.2.p = s.p := by simp [State.pull_eq]
@[simp] theorem State.pull_pc (s : State) : s.pull.2.pc = s.pc := by simp [State.pull_eq]
@[simp] theorem State.pull_halted (s : State) : s.pull.2.halted = s.halted := by simp [State.pull_eq]
@[simp] theorem State.pull_banksLoaded (s : State) : s.pull.2.banksLoaded = s.banksLoaded := by simp [State.pull_eq]
@[simp] theorem State.pull_config (s : State) : s.pull.2.config = s.config := by simp [State.pull_eq]
@[simp] theorem State.pull_nmiPending (s : State) : s.pull.2.nmiPending = s.nmiPending := by simp [State.pull_eq]
@[simp] theorem State.pull_irqLine (s : State) : s.pull.2.irqLine = s.irqLine := by simp [State.pull_eq]
@[simp] theorem State.pull_started (s : State) : s.pull.2.started = s.started := by simp [State.pull_eq]
@[simp] theorem State.pull_cycles (s : State) : s.pull.2.cycles = s.cycles := by simp [State.pull_eq]
@[simp] theorem State.pull_storage (s : State) : s.pull.2.storage = s.storage := by simp [State.pull_eq]
@[simp] theorem State.pull_periphReads (s : State) : s.pull.2.periphReads = s.periphReads := by simp [State.pull_eq]
@[simp] theorem State.pull_portCalls (s : State) : s.pull.2.portCalls = s.portCalls := by simp [State.pull_eq]
@[simp] theorem State.pull_sp (s : State) : s.pull.2.sp = 0x0100#16 ||| zext16 (lo8 (s.sp + 1)) := by
  simp [State.pull_eq]

@[simp] theorem State.fetch8_a (s : State) : s.fetch8.2.a = s.a := by simp [State.fetch8]
@[simp] theorem State.fetch8_x (s : State) : s.fetch8.2.x = s.x := by simp [State.fetch8]
@[simp] theorem State.fetch8_y (s : State) : s.fetch8.2.y = s.y := by simp [State.fetch8]
@[simp] theorem State.fetch8_p (s : State) : s.fetch8.2.p = s.p := by simp [State.fetch8]
@[simp] theorem State.fetch8_halted (s : State) : s.fetch8.2.halted = s.halted := by simp [State.fetch8]
@[simp] theorem State.fetch8_banksLoaded (s : State) : s.fetch8.2.banksLoaded = s.banksLoaded := by simp [State.fetch8]
@[simp] theorem State.fetch8_config (s : State) : s.fetch8.2.config = s.config := by simp [State.fetch8]
@[simp] theorem State.fetch8_nmiPending (s : State) : s.fetch8.2.nmiPending = s.nmiPending := by simp [State.fetch8]
@[simp] theorem State.fetch8_irqLine (s : State) : s.fetch8.2.irqLine = s.irqLine := by simp [State.fetch8]
@[simp] theorem State.fetch8_started (s : State) : s.fetch8.2.started = s.started := by simp [State.fetch8]
@[simp] theorem State.fetch8_cycles (s : State) : s.fetch8.2.cycles = s.cycles := by simp [State.fetch8]
@[simp] theorem State.fetch8_sp (s : State) : s.fetch8.2.sp = s.sp := by simp [State.fetch8]
@[simp] theorem State.fetch8_storage (s : State) : s.fetch8.2.storage = s.storage := by simp [State.fetch8]
@[simp] theorem State.fetch8_pc (s : State) : s.fetch8.2.pc = s.pc + 1 := by simp [State.fetch8]

/-! ### Words on the stack -/

@[simp] theorem State.pushWord_a (s : State) (order : PushOrder) (v : Word) : (s.pushWord order v).a = s.a := by
  cases order <;> simp [State.pushWord]
@[simp] theorem State.pushWord_x (s : State) (order : PushOrder) (v : Word) : (s.pushWord order v).x = s.x := by
  cases order <;> simp [State.pushWord]
@[simp] theorem State.pushWord_y (s : State) (order : PushOrder) (v : Word) : (s.pushWord order v).y = s.y := by
  cases order <;> simp [State.pushWord]
@[simp] theorem State.pushWord_halted (s : State) (order : PushOrder) (v : Word) : (s.pushWord order v).halted = s.halted := by
  cases order <;> simp [State.pushWord]
@[simp] theorem State.pushWord_banksLoaded (s : State) (order : PushOrder) (v : Word) : (s.pushWord order v).banksLoaded = s.banksLoaded := by
  cases order <;> simp [State.pushWord]
@[simp] theorem State.pushWord_config (s : State) (order : PushOrder) (v : Word) : (s.pushWord order v).config = s.config := by
  cases order <;> simp [State.pushWord]
@[simp] theorem State.pushWord_nmiPending (s : State) (order : PushOrder) (v : Word) : (s.pushWord order v).nmiPending = s.nmiPending := by
  cases order <;> simp [State.pushWord]
@[simp] theorem State.pushWord_irqLine (s : State) (order : PushOrder) (v : Word) : (s.pushWord order v).irqLine = s.irqLine := by
  cases order <;> simp [State.pushWord]
@[simp] theorem State.pushWord_started (s : State) (order : PushOrder) (v : Word) : (s.pushWord order v).started = s.started := by
  cases order <;> simp [State.pushWord]
@[simp] theorem State.pushWord_cycles (s : State) (order : PushOrder) (v : Word) : (s.pushWord order v).cycles = s.cycles := by
  cases order <;> simp [State.pushWord]
@[simp] theorem State.pushWord_p (s : State) (order : PushOrder) (v : Word) : (s.pushWord order v).p = s.p := by
  cases order <;> simp [State.pushWord]
@[simp] theorem State.pushWord_pc (s : State) (order : PushOrder) (v : Word) : (s.pushWord order v).pc = s.pc := by
  cases order <;> simp [State.pushWord]
@[simp] theorem State.pushWord_periphReads (s : State) (order : PushOrder) (v : Word) : (s.pushWord order v).periphReads = s.periphReads := by
  cases order <;> simp [State.pushWord]
@[simp] theorem State.pullWord_a (s : State) : s.pullWord.2.a = s.a := by simp [State.pullWord]
@[simp] theorem State.pullWord_x (s : State) : s.pullWord.2.x = s.x := by simp [State.pullWord]
@[simp] theorem State.pullWord_y (s : State) : s.pullWord.2.y = s.y := by simp [State.pullWord]
@[simp] theorem State.pullWord_halted (s : State) : s.pullWord.2.halted = s.halted := by simp [State.pullWord]
@[simp] theorem State.pullWord_banksLoaded (s : State) : s.pullWord.2.banksLoaded = s.banksLoaded := by simp [State.pullWord]
@[simp] theorem State.pullWord_config (s : State) : s.pullWord.2.config = s.config := by simp [State.pullWord]
@[simp] theorem State.pullWord_nmiPending (s : State) : s.pullWord.2.nmiPending = s.nmiPending := by simp [State.pullWord]
@[simp] theorem State.pullWord_irqLine (s : State) : s.pullWord.2.irqLine = s.irqLine := by simp [State.pullWord]
@[simp] theorem State.pullWord_started (s : State) : s.pullWord.2.started = s.started := by simp [State.pullWord]
@[simp] theorem State.pullWord_cycles (s : State) : s.pullWord.2.cycles = s.cycles := by simp [State.pullWord]
@[simp] theorem State.pullWord_p (s : State) : s.pullWord.2.p = s.p := by simp [State.pullWord]
@[simp] theorem State.pullWord_pc (s : State) : s.pullWord.2.pc = s.pc := by simp [State.pullWord]
@[simp] theorem State.pullWord_storage (s : State) : s.pullWord.2.storage = s.storage := by simp [State.pullWord]
@[simp] theorem State.pullWord_periphReads (s : State) : s.pullWord.2.periphReads = s.periphReads := by simp [State.pullWord]
@[simp] theorem State.pullWord_portCalls (s : State) : s.pullWord.2.portCalls = s.portCalls := by simp [State.pullWord]

/-! ### Taking and leaving an exception -/

@[simp] theorem State.takeException_a (s : State) (ret : Word) (order : PushOrder) (status : Byte) (vector : Word) :
    (s.takeException ret order status vector).a = s.a := by
  simp [State.takeException]
@[simp] theorem State.takeException_x (s : State) (ret : Word) (order : PushOrder) (status : Byte) (vector : Word) :
    (s.takeException ret order status vector).x = s.x := by
  simp [State.takeException]
@[simp] theorem State.takeException_y (s : State) (ret : Word) (order : PushOrder) (status : Byte) (vector : Word) :
    (s.takeException ret order status vector).y = s.y := by
  simp [State.takeException]
@[simp] theorem State.takeException_halted (s : State) (ret : Word) (order : PushOrder) (status : Byte) (vector : Word) :
    (s.takeException ret order status vector).halted = s.halted := by
  simp [State.takeException]
@[simp] theorem State.takeException_banksLoaded (s : State) (ret : Word) (order : PushOrder) (status : Byte) (vector : Word) :
    (s.takeException ret order status vector).banksLoaded = s.banksLoaded := by
  simp [State.takeException]
@[simp] theorem State.takeException_config (s : State) (ret : Word) (order : PushOrder) (status : Byte) (vector : Word) :
    (s.takeException ret order status vector).config = s.config := by
  simp [State.takeException]
@[simp] theorem State.takeException_nmiPending (s : State) (ret : Word) (order : PushOrder) (status : Byte) (vector : Word) :
    (s.takeException ret order status vector).nmiPending = s.nmiPending := by
  simp [State.takeException]
@[simp] theorem State.takeException_irqLine (s : State) (ret : Word) (order : PushOrder) (status : Byte) (vector : Word) :
    (s.takeException ret order status vector).irqLine = s.irqLine := by
  simp [State.takeException]
@[simp] theorem State.takeException_started (s : State) (ret : Word) (order : PushOrder) (status : Byte) (vector : Word) :
    (s.takeException ret order status vector).started = s.started := by
  simp [State.takeException]
@[simp] theorem State.takeException_cycles (s : State) (ret : Word) (order : PushOrder) (status : Byte) (vector : Word) :
    (s.takeException ret order status vector).cycles = s.cycles := by
  simp [State.takeException]

/-- The flags after taking an exception: `I` set, every other as before (R149). -/
@[simp] theorem State.takeException_p (s : State) (ret : Word) (order : PushOrder) (status : Byte) (vector : Word) :
    (s.takeException ret order status vector).p = (s.setFlag .i true).p := by
  cases order <;> simp [State.takeException, State.pushWord] <;> simp [State.setFlag]

@[simp] theorem State.returnFromException_a (s : State) : s.returnFromException.a = s.a := by
  simp [State.returnFromException]
@[simp] theorem State.returnFromException_x (s : State) : s.returnFromException.x = s.x := by
  simp [State.returnFromException]
@[simp] theorem State.returnFromException_y (s : State) : s.returnFromException.y = s.y := by
  simp [State.returnFromException]
@[simp] theorem State.returnFromException_halted (s : State) : s.returnFromException.halted = s.halted := by
  simp [State.returnFromException]
@[simp] theorem State.returnFromException_banksLoaded (s : State) : s.returnFromException.banksLoaded = s.banksLoaded := by
  simp [State.returnFromException]
@[simp] theorem State.returnFromException_config (s : State) : s.returnFromException.config = s.config := by
  simp [State.returnFromException]
@[simp] theorem State.returnFromException_nmiPending (s : State) : s.returnFromException.nmiPending = s.nmiPending := by
  simp [State.returnFromException]
@[simp] theorem State.returnFromException_irqLine (s : State) : s.returnFromException.irqLine = s.irqLine := by
  simp [State.returnFromException]
@[simp] theorem State.returnFromException_started (s : State) : s.returnFromException.started = s.started := by
  simp [State.returnFromException]
@[simp] theorem State.returnFromException_cycles (s : State) : s.returnFromException.cycles = s.cycles := by
  simp [State.returnFromException]
@[simp] theorem State.returnFromException_storage (s : State) : s.returnFromException.storage = s.storage := by
  simp [State.returnFromException]
@[simp] theorem State.returnFromException_periphReads (s : State) : s.returnFromException.periphReads = s.periphReads := by
  simp [State.returnFromException]
@[simp] theorem State.returnFromException_portCalls (s : State) : s.returnFromException.portCalls = s.portCalls := by
  simp [State.returnFromException]
@[simp] theorem State.returnFromException_p (s : State) : s.returnFromException.p = hardwireP s.pull.1 := by
  simp [State.returnFromException]

end Sys2Proof.Machine
end

