-- ==== Sys2Proof/Laws/Decode.lean ====
section
/-! SUPPORT. What `decode` does at each shape of dispatch-table entry, and that the encoder agrees with the table.
`handler op = …` is true by `rfl` at every opcode byte. -/

namespace Sys2Proof

open Machine

/-- An opcode with no operand bytes. -/
theorem decode_implied (op : Byte) (i : Instr) (rest : List Byte) (h : handler op = .implied i) :
    decode (op :: rest) = .ok i rest := by
  simp only [decode, h]

/-- An opcode with one operand byte. -/
theorem decode_oneByte (op b : Byte) (f : Byte → Instr) (rest : List Byte) (h : handler op = .oneByte f) :
    decode (op :: b :: rest) = .ok (f b) rest := by
  simp only [decode, h]

/-- An opcode with a little-endian word operand (R70). -/
theorem decode_twoBytes (op : Byte) (v : Word) (f : Word → Instr) (rest : List Byte) (h : handler op = .twoBytes f) :
    decode (op :: lo8 v :: hi8 v :: rest) = .ok (f v) rest := by
  simp only [decode, h, word_hi8_lo8]

/-- A byte with no handler decodes to itself, unmapped (R72). -/
theorem decode_unmapped (op : Byte) (rest : List Byte) (h : handler op = .unmapped) :
    decode (op :: rest) = .ok (.unmapped op) rest := by
  simp only [decode, h]

/-- Every entry of the table makes a well-formed instruction whose encoding starts with its opcode. -/
def EncoderAgrees (op : Byte) : Prop :=
  match handler op with
  | .unmapped => encode (.unmapped op) = [op] ∧ (Instr.unmapped op).wellFormed = true
  | .implied i => encode i = [op] ∧ i.wellFormed = true
  | .oneByte f => ∀ b, encode (f b) = [op, b] ∧ (f b).wellFormed = true
  | .twoBytes f => ∀ v, encode (f v) = [op, lo8 v, hi8 v] ∧ (f v).wellFormed = true

set_option maxRecDepth 20000

theorem encoder_agrees_0 (n : Nat) (h : n < 32) : EncoderAgrees (BitVec.ofNat 8 (0 + n)) := by
  interval_cases n <;> first | exact ⟨rfl, rfl⟩ | exact fun _ => ⟨rfl, rfl⟩

theorem encoder_agrees_1 (n : Nat) (h : n < 32) : EncoderAgrees (BitVec.ofNat 8 (32 + n)) := by
  interval_cases n <;> first | exact ⟨rfl, rfl⟩ | exact fun _ => ⟨rfl, rfl⟩

theorem encoder_agrees_2 (n : Nat) (h : n < 32) : EncoderAgrees (BitVec.ofNat 8 (64 + n)) := by
  interval_cases n <;> first | exact ⟨rfl, rfl⟩ | exact fun _ => ⟨rfl, rfl⟩

theorem encoder_agrees_3 (n : Nat) (h : n < 32) : EncoderAgrees (BitVec.ofNat 8 (96 + n)) := by
  interval_cases n <;> first | exact ⟨rfl, rfl⟩ | exact fun _ => ⟨rfl, rfl⟩

theorem encoder_agrees_4 (n : Nat) (h : n < 32) : EncoderAgrees (BitVec.ofNat 8 (128 + n)) := by
  interval_cases n <;> first | exact ⟨rfl, rfl⟩ | exact fun _ => ⟨rfl, rfl⟩

theorem encoder_agrees_5 (n : Nat) (h : n < 32) : EncoderAgrees (BitVec.ofNat 8 (160 + n)) := by
  interval_cases n <;> first | exact ⟨rfl, rfl⟩ | exact fun _ => ⟨rfl, rfl⟩

theorem encoder_agrees_6 (n : Nat) (h : n < 32) : EncoderAgrees (BitVec.ofNat 8 (192 + n)) := by
  interval_cases n <;> first | exact ⟨rfl, rfl⟩ | exact fun _ => ⟨rfl, rfl⟩

theorem encoder_agrees_7 (n : Nat) (h : n < 32) : EncoderAgrees (BitVec.ofNat 8 (224 + n)) := by
  interval_cases n <;> first | exact ⟨rfl, rfl⟩ | exact fun _ => ⟨rfl, rfl⟩

/-- The encoder and the dispatch table agree at every opcode byte. -/
theorem encoder_agrees (op : Byte) : EncoderAgrees op := by
  have lt := op.isLt
  have at_row (n : Nat) (h : op.toNat = n) (g : EncoderAgrees (BitVec.ofNat 8 n)) : EncoderAgrees op := by
    rwa [show op = BitVec.ofNat 8 n by rw [← h, BitVec.ofNat_toNat, BitVec.setWidth_eq]]
  obtain h | h | h | h | h | h | h | h :
      op.toNat / 32 = 0 ∨ op.toNat / 32 = 1 ∨ op.toNat / 32 = 2 ∨ op.toNat / 32 = 3 ∨ op.toNat / 32 = 4 ∨
        op.toNat / 32 = 5 ∨ op.toNat / 32 = 6 ∨ op.toNat / 32 = 7 := by omega
  · exact at_row _ (by omega) (encoder_agrees_0 (op.toNat % 32) (by omega))
  · exact at_row _ (by omega) (encoder_agrees_1 (op.toNat % 32) (by omega))
  · exact at_row _ (by omega) (encoder_agrees_2 (op.toNat % 32) (by omega))
  · exact at_row _ (by omega) (encoder_agrees_3 (op.toNat % 32) (by omega))
  · exact at_row _ (by omega) (encoder_agrees_4 (op.toNat % 32) (by omega))
  · exact at_row _ (by omega) (encoder_agrees_5 (op.toNat % 32) (by omega))
  · exact at_row _ (by omega) (encoder_agrees_6 (op.toNat % 32) (by omega))
  · exact at_row _ (by omega) (encoder_agrees_7 (op.toNat % 32) (by omega))

/-- The encoding of an unmapped instruction is its byte, which has no handler. -/
theorem handler_unmapped (op : Byte) (h : (Instr.unmapped op).wellFormed = true) : handler op = .unmapped := by
  simp only [Instr.wellFormed, unmappedBytes, List.contains_eq_mem, decide_eq_true_eq] at h
  fin_cases h <;> rfl

end Sys2Proof
end

