-- ==== Sys2Proof/Laws/Operands.lean ====
section
/-! SUPPORT. What reading, storing and modifying an operand do, said once for each. -/

namespace Sys2Proof.Machine

/-! ### Flags across bus accesses -/

@[simp] theorem State.flag_read8 (s : State) (a : Word) (f : Flag) : (s.read8 a).2.flag f = s.flag f := by
  simp [State.flag]
@[simp] theorem State.flag_write8 (s : State) (a : Word) (v : Byte) (f : Flag) : (s.write8 a v).flag f = s.flag f := by
  simp [State.flag]
@[simp] theorem State.flag_charge (s : State) (n : Nat) (f : Flag) : (s.charge n).flag f = s.flag f := rfl

/-! ### Reading an operand -/

@[simp] theorem State.readOperand_accumulator (s : State) : s.readOperand .accumulator = (s.a, s) := rfl
@[simp] theorem State.readOperand_immediate (s : State) (nn : Byte) : s.readOperand (.immediate nn) = (nn, s) := rfl
theorem State.readOperand_memory (s : State) (m : AddrMode) :
    s.readOperand (.memory m) = s.read8 (s.effectiveAddress m) := rfl

@[simp] theorem State.operandPenalty_accumulator (s : State) : s.operandPenalty .accumulator = 0 := rfl
@[simp] theorem State.operandPenalty_immediate (s : State) (nn : Byte) : s.operandPenalty (.immediate nn) = 0 := rfl

/-- The +1 of a memory operand (R79). -/
theorem State.operandPenalty_memory (s : State) (m : AddrMode) :
    s.operandPenalty (.memory m) = if s.crossed m then 1 else 0 := by
  show (s.crossed m).toNat = _
  cases s.crossed m <;> rfl

/-- All a read of an operand can do to the state: nothing, or one more `PeripheralRead` on record. -/
theorem State.readOperand_state (s : State) (o : Operand) :
    (s.readOperand o).2 = s ∨ ∃ t v,
      (s.readOperand o).2 = { s with
        periphReads := s.periphReads + 1
        portCalls := s.portCalls ++ [.peripheralRead t v] } := by
  cases o with
  | accumulator => exact .inl rfl
  | immediate nn => exact .inl rfl
  | memory m =>
    rcases s.read8_state (s.effectiveAddress m) with h | ⟨v, h⟩
    · exact .inl h
    · exact .inr ⟨_, v, h⟩

@[simp] theorem State.readOperand_a (s : State) (o : Operand) : (s.readOperand o).2.a = s.a := by
  cases o <;> simp [State.readOperand]
@[simp] theorem State.readOperand_x (s : State) (o : Operand) : (s.readOperand o).2.x = s.x := by
  cases o <;> simp [State.readOperand]
@[simp] theorem State.readOperand_y (s : State) (o : Operand) : (s.readOperand o).2.y = s.y := by
  cases o <;> simp [State.readOperand]
@[simp] theorem State.readOperand_sp (s : State) (o : Operand) : (s.readOperand o).2.sp = s.sp := by
  cases o <;> simp [State.readOperand]
@[simp] theorem State.readOperand_p (s : State) (o : Operand) : (s.readOperand o).2.p = s.p := by
  cases o <;> simp [State.readOperand]
@[simp] theorem State.readOperand_pc (s : State) (o : Operand) : (s.readOperand o).2.pc = s.pc := by
  cases o <;> simp [State.readOperand]
@[simp] theorem State.readOperand_storage (s : State) (o : Operand) : (s.readOperand o).2.storage = s.storage := by
  cases o <;> simp [State.readOperand]
@[simp] theorem State.readOperand_halted (s : State) (o : Operand) : (s.readOperand o).2.halted = s.halted := by
  cases o <;> simp [State.readOperand]
@[simp] theorem State.readOperand_banksLoaded (s : State) (o : Operand) : (s.readOperand o).2.banksLoaded = s.banksLoaded := by
  cases o <;> simp [State.readOperand]
@[simp] theorem State.readOperand_config (s : State) (o : Operand) : (s.readOperand o).2.config = s.config := by
  cases o <;> simp [State.readOperand]
@[simp] theorem State.readOperand_nmiPending (s : State) (o : Operand) : (s.readOperand o).2.nmiPending = s.nmiPending := by
  cases o <;> simp [State.readOperand]
@[simp] theorem State.readOperand_irqLine (s : State) (o : Operand) : (s.readOperand o).2.irqLine = s.irqLine := by
  cases o <;> simp [State.readOperand]
@[simp] theorem State.readOperand_started (s : State) (o : Operand) : (s.readOperand o).2.started = s.started := by
  cases o <;> simp [State.readOperand]
@[simp] theorem State.readOperand_cycles (s : State) (o : Operand) : (s.readOperand o).2.cycles = s.cycles := by
  cases o <;> simp [State.readOperand]
@[simp] theorem State.flag_readOperand (s : State) (o : Operand) (f : Flag) :
    (s.readOperand o).2.flag f = s.flag f := by
  simp [State.flag]
@[simp] theorem State.byteAt_readOperand (s : State) (o : Operand) (i : Nat) :
    (s.readOperand o).2.byteAt i = s.byteAt i := by
  simp [State.byteAt]

/-! ### Writing back -/

@[simp] theorem State.writeBack_x (s : State) (o : Operand) (ea : AddrMode → Word) (v : Byte) :
    (s.writeBack o ea v).x = s.x := by
  cases o <;> simp [State.writeBack]
@[simp] theorem State.writeBack_y (s : State) (o : Operand) (ea : AddrMode → Word) (v : Byte) :
    (s.writeBack o ea v).y = s.y := by
  cases o <;> simp [State.writeBack]
@[simp] theorem State.writeBack_sp (s : State) (o : Operand) (ea : AddrMode → Word) (v : Byte) :
    (s.writeBack o ea v).sp = s.sp := by
  cases o <;> simp [State.writeBack]
@[simp] theorem State.writeBack_p (s : State) (o : Operand) (ea : AddrMode → Word) (v : Byte) :
    (s.writeBack o ea v).p = s.p := by
  cases o <;> simp [State.writeBack]
@[simp] theorem State.writeBack_pc (s : State) (o : Operand) (ea : AddrMode → Word) (v : Byte) :
    (s.writeBack o ea v).pc = s.pc := by
  cases o <;> simp [State.writeBack]
@[simp] theorem State.writeBack_halted (s : State) (o : Operand) (ea : AddrMode → Word) (v : Byte) :
    (s.writeBack o ea v).halted = s.halted := by
  cases o <;> simp [State.writeBack]
@[simp] theorem State.writeBack_banksLoaded (s : State) (o : Operand) (ea : AddrMode → Word) (v : Byte) :
    (s.writeBack o ea v).banksLoaded = s.banksLoaded := by
  cases o <;> simp [State.writeBack]
@[simp] theorem State.writeBack_config (s : State) (o : Operand) (ea : AddrMode → Word) (v : Byte) :
    (s.writeBack o ea v).config = s.config := by
  cases o <;> simp [State.writeBack]
@[simp] theorem State.writeBack_nmiPending (s : State) (o : Operand) (ea : AddrMode → Word) (v : Byte) :
    (s.writeBack o ea v).nmiPending = s.nmiPending := by
  cases o <;> simp [State.writeBack]
@[simp] theorem State.writeBack_irqLine (s : State) (o : Operand) (ea : AddrMode → Word) (v : Byte) :
    (s.writeBack o ea v).irqLine = s.irqLine := by
  cases o <;> simp [State.writeBack]
@[simp] theorem State.writeBack_started (s : State) (o : Operand) (ea : AddrMode → Word) (v : Byte) :
    (s.writeBack o ea v).started = s.started := by
  cases o <;> simp [State.writeBack]
@[simp] theorem State.writeBack_periphReads (s : State) (o : Operand) (ea : AddrMode → Word) (v : Byte) :
    (s.writeBack o ea v).periphReads = s.periphReads := by
  cases o <;> simp [State.writeBack]
@[simp] theorem State.writeBack_cycles (s : State) (o : Operand) (ea : AddrMode → Word) (v : Byte) :
    (s.writeBack o ea v).cycles = s.cycles := by
  cases o <;> simp [State.writeBack]
@[simp] theorem State.flag_writeBack (s : State) (o : Operand) (ea : AddrMode → Word) (v : Byte) (f : Flag) :
    (s.writeBack o ea v).flag f = s.flag f := by
  simp [State.flag]

/-! ### Addresses -/

/-- A pointer byte in page 0 is a Storage byte, read with no side effect (R46, R95). -/
theorem State.read8_zext16 (s : State) (p : Byte) : s.read8 (zext16 p) = (s.byteAt p.toNat, s) := by
  have lt := p.isLt
  have h : (zext16 p).toNat = p.toNat := by simp [zext16]; omega
  have low := translate_low (zext16 p) (by omega)
  rw [State.read8_of_not_periph _ _ (by rw [low]; exact isPeriph_low _ (by omega)), low, h]

@[simp] theorem State.zeroPageByte_eq (s : State) (p : Byte) : s.zeroPageByte p = s.byteAt p.toNat := by
  simp [State.zeroPageByte, State.read8_zext16]

/-- The effective address depends on `X`, `Y` and Storage alone. -/
theorem State.effectiveAddress_congr (s t : State) (hx : s.x = t.x) (hy : s.y = t.y) (hs : s.storage = t.storage)
    (m : AddrMode) : s.effectiveAddress m = t.effectiveAddress m := by
  have b := State.byteAt_congr s t hs
  cases m <;> simp [State.effectiveAddress, State.zeroPagePointer, hx, hy, b]

/-! ### The shapes of instructions with an operand -/

/-- An instruction that reads its operand, all of it. -/
theorem readInstr_eq (base : Nat) (o : Operand) (operate : Byte → State → State) (s : State) :
    readInstr base o operate s =
      .next { operate (s.readOperand o).1 (s.readOperand o).2 with cycles := base + s.operandPenalty o } := rfl

/-- An instruction that takes its operand from the instruction stream, all of it (R88): no page penalty. -/
theorem readInstr_immediate (base : Nat) (nn : Byte) (operate : Byte → State → State) (s : State) :
    readInstr base (.immediate nn) operate s = .next { operate nn s with cycles := base } := rfl

/-- An instruction that reads memory, all of it (R79, R99): one `read8` of `EA`, and the +1 of a crossing. -/
theorem readInstr_memory (base : Nat) (m : AddrMode) (operate : Byte → State → State) (s : State) :
    readInstr base (.memory m) operate s =
      let read := s.read8 (s.effectiveAddress m)
      .next { operate read.1 read.2 with cycles := base + if s.crossed m then 1 else 0 } := by
  rw [readInstr_eq, State.operandPenalty_memory]
  rfl

/-- A store, all of it (R48). -/
theorem storeInstr_eq (base : Nat) (m : AddrMode) (v : Byte) (s : State) :
    storeInstr base m v s =
      .next { s with
        storage := s.storage.write (translate (s.effectiveAddress m)).toNat v
        portCalls := s.portCalls ++
          if isPeriph (translate (s.effectiveAddress m)) then [.registerWrite (translate (s.effectiveAddress m)) v]
          else []
        cycles := base } := by
  unfold storeInstr State.write8 State.setByte State.charge
  simp only
  split <;> simp

/-- A read-modify-write of memory, all of it (R60). -/
theorem modifyInstr_memory (base : Nat) (m : AddrMode) (compute : Byte → State → Byte)
    (finish : Byte → Byte → State → State) (s : State) :
    modifyInstr base (.memory m) compute finish s =
      let ea := s.effectiveAddress m
      let v := (s.read8 ea).1
      let r := compute v (s.read8 ea).2
      .next { finish v r ((s.read8 ea).2.write8 ea r) with cycles := base } := rfl

/-- A read-modify-write of the accumulator, all of it. -/
theorem modifyInstr_accumulator (base : Nat) (compute : Byte → State → Byte)
    (finish : Byte → Byte → State → State) (s : State) :
    modifyInstr base .accumulator compute finish s =
      let r := compute s.a s
      .next { finish s.a r { s with a := r } with cycles := base } := rfl

end Sys2Proof.Machine
end

