-- ==== Sys2Proof/Laws/Forms.lean ====
section
/-! SUPPORT. What every instruction can do, said once: each of the 232 constructors has one of a few forms, and
`exec` of it is that form's run (`exec_eq_run`). A proof about all instructions goes by cases on the form. -/

namespace Sys2Proof.Machine

/-! ### The indirect target (R98): read, never written -/

@[simp] theorem State.indirectTarget_a (s : State) (ptr : Word) : (s.indirectTarget ptr).2.a = s.a := by
  unfold State.indirectTarget; split <;> simp
@[simp] theorem State.indirectTarget_x (s : State) (ptr : Word) : (s.indirectTarget ptr).2.x = s.x := by
  unfold State.indirectTarget; split <;> simp
@[simp] theorem State.indirectTarget_y (s : State) (ptr : Word) : (s.indirectTarget ptr).2.y = s.y := by
  unfold State.indirectTarget; split <;> simp
@[simp] theorem State.indirectTarget_sp (s : State) (ptr : Word) : (s.indirectTarget ptr).2.sp = s.sp := by
  unfold State.indirectTarget; split <;> simp
@[simp] theorem State.indirectTarget_p (s : State) (ptr : Word) : (s.indirectTarget ptr).2.p = s.p := by
  unfold State.indirectTarget; split <;> simp
@[simp] theorem State.indirectTarget_pc (s : State) (ptr : Word) : (s.indirectTarget ptr).2.pc = s.pc := by
  unfold State.indirectTarget; split <;> simp
@[simp] theorem State.indirectTarget_storage (s : State) (ptr : Word) : (s.indirectTarget ptr).2.storage = s.storage := by
  unfold State.indirectTarget; split <;> simp
@[simp] theorem State.indirectTarget_halted (s : State) (ptr : Word) : (s.indirectTarget ptr).2.halted = s.halted := by
  unfold State.indirectTarget; split <;> simp
@[simp] theorem State.indirectTarget_banksLoaded (s : State) (ptr : Word) : (s.indirectTarget ptr).2.banksLoaded = s.banksLoaded := by
  unfold State.indirectTarget; split <;> simp
@[simp] theorem State.indirectTarget_config (s : State) (ptr : Word) : (s.indirectTarget ptr).2.config = s.config := by
  unfold State.indirectTarget; split <;> simp
@[simp] theorem State.indirectTarget_nmiPending (s : State) (ptr : Word) : (s.indirectTarget ptr).2.nmiPending = s.nmiPending := by
  unfold State.indirectTarget; split <;> simp
@[simp] theorem State.indirectTarget_irqLine (s : State) (ptr : Word) : (s.indirectTarget ptr).2.irqLine = s.irqLine := by
  unfold State.indirectTarget; split <;> simp
@[simp] theorem State.indirectTarget_started (s : State) (ptr : Word) : (s.indirectTarget ptr).2.started = s.started := by
  unfold State.indirectTarget; split <;> simp
@[simp] theorem State.indirectTarget_cycles (s : State) (ptr : Word) : (s.indirectTarget ptr).2.cycles = s.cycles := by
  unfold State.indirectTarget; split <;> simp

/-! ### Forms -/

/-- The operations of the instructions that read their operand. -/
inductive ReadOp where
  | lda | ldx | ldy | adc | sbc | and | ora | eor | bit | cmp | cpx | cpy | lax
deriving DecidableEq, Repr

def ReadOp.apply (op : ReadOp) (m : Byte) (t : State) : State :=
  match op with
  | .lda => t.setA m
  | .ldx => t.setX m
  | .ldy => t.setY m
  | .adc => t.addToA m
  | .sbc => t.addToA (~~~m)
  | .and => t.setA (t.a &&& m)
  | .ora => t.setA (t.a ||| m)
  | .eor => t.setA (t.a ^^^ m)
  | .bit => ((t.setFlag .z (t.a &&& m == 0#8)).setFlag .n m.msb).setFlag .v (m.getLsbD 6)
  | .cmp => t.compare t.a m
  | .cpx => t.compare t.x m
  | .cpy => t.compare t.y m
  | .lax => (t.setA m).setX m

def ReadOp.mnemonic : ReadOp → Mnemonic
  | .lda => .lda
  | .ldx => .ldx
  | .ldy => .ldy
  | .adc => .adc
  | .sbc => .sbc
  | .and => .and
  | .ora => .ora
  | .eor => .eor
  | .bit => .bit
  | .cmp => .cmp
  | .cpx => .cpx
  | .cpy => .cpy
  | .lax => .lax

/-- The stores. -/
inductive StoreOp where
  | sta | stx | sty | sax
deriving DecidableEq, Repr

def StoreOp.value (op : StoreOp) (s : State) : Byte :=
  match op with
  | .sta => s.a
  | .stx => s.x
  | .sty => s.y
  | .sax => s.a &&& s.x

def StoreOp.mnemonic : StoreOp → Mnemonic
  | .sta => .sta
  | .stx => .stx
  | .sty => .sty
  | .sax => .sax

/-- The operations of the read-modify-writes. -/
inductive ModifyOp where
  | inc | dec | asl | lsr | rol | ror | dcp | isb | slo | rla | sre | rra
deriving DecidableEq, Repr

/-- The new byte. -/
def ModifyOp.compute (op : ModifyOp) (v : Byte) (t : State) : Byte :=
  match op with
  | .inc => v + 1
  | .dec => v - 1
  | .asl => shiftLeft v
  | .lsr => shiftRight v
  | .rol => rotateLeft v (t.flag .c)
  | .ror => rotateRight v (t.flag .c)
  | .dcp => v - 1
  | .isb => v + 1
  | .slo => shiftLeft v
  | .rla => rotateLeft v (t.flag .c)
  | .sre => shiftRight v
  | .rra => rotateRight v (t.flag .c)

/-- What follows the write back of `r`. -/
def ModifyOp.finish (op : ModifyOp) (v r : Byte) (t : State) : State :=
  match op with
  | .inc => t.setNZ r
  | .dec => t.setNZ r
  | .asl => (t.setFlag .c v.msb).setNZ r
  | .lsr => (t.setFlag .c (v.getLsbD 0)).setNZ r
  | .rol => (t.setFlag .c v.msb).setNZ r
  | .ror => (t.setFlag .c (v.getLsbD 0)).setNZ r
  | .dcp => t.compare t.a r
  | .isb => t.addToA (~~~r)
  | .slo => (t.setFlag .c v.msb).setA (t.a ||| r)
  | .rla => (t.setFlag .c v.msb).setA (t.a &&& r)
  | .sre => (t.setFlag .c (v.getLsbD 0)).setA (t.a ^^^ r)
  | .rra => (t.setFlag .c (v.getLsbD 0)).addToA r

def ModifyOp.mnemonic : ModifyOp → Mnemonic
  | .inc => .inc
  | .dec => .dec
  | .asl => .asl
  | .lsr => .lsr
  | .rol => .rol
  | .ror => .ror
  | .dcp => .dcp
  | .isb => .isb
  | .slo => .slo
  | .rla => .rla
  | .sre => .sre
  | .rra => .rra

/-- The implied instructions, NOP apart. -/
inductive PlainOp where
  | tax | tay | tsx | txa | txs | tya | inx | iny | dex | dey | rts | brk | rti | pha | php | pla | plp
  | clc | cld | cli | clv | sec | sed | sei
deriving DecidableEq, Repr

def PlainOp.apply (op : PlainOp) (s : State) : State :=
  match op with
  | .tax => s.setX s.a
  | .tay => s.setY s.a
  | .tsx => s.setX (lo8 s.sp)
  | .txa => s.setA s.x
  | .txs => s.setSp s.x
  | .tya => s.setA s.y
  | .inx => s.setX (s.x + 1)
  | .iny => s.setY (s.y + 1)
  | .dex => s.setX (s.x - 1)
  | .dey => s.setY (s.y - 1)
  | .rts => { s.pullWord.2 with pc := s.pullWord.1 + 1 }
  | .brk => s.takeException (s.pc - 1 + BitVec.ofNat 16 s.config.brkReturnOffset) s.config.brkPushOrder (pushedBySoftware s.p) 0xFFFE#16
  | .rti => s.returnFromException
  | .pha => s.push s.a
  | .php => s.push (pushedBySoftware s.p)
  | .pla => s.pull.2.setA s.pull.1
  | .plp => s.pull.2.setP s.pull.1
  | .clc => s.setFlag .c false
  | .cld => s.setFlag .d false
  | .cli => s.setFlag .i false
  | .clv => s.setFlag .v false
  | .sec => s.setFlag .c true
  | .sed => s.setFlag .d true
  | .sei => s.setFlag .i true

def PlainOp.mnemonic : PlainOp → Mnemonic
  | .tax => .tax
  | .tay => .tay
  | .tsx => .tsx
  | .txa => .txa
  | .txs => .txs
  | .tya => .tya
  | .inx => .inx
  | .iny => .iny
  | .dex => .dex
  | .dey => .dey
  | .rts => .rts
  | .brk => .brk
  | .rti => .rti
  | .pha => .pha
  | .php => .php
  | .pla => .pla
  | .plp => .plp
  | .clc => .clc
  | .cld => .cld
  | .cli => .cli
  | .clv => .clv
  | .sec => .sec
  | .sed => .sed
  | .sei => .sei

/-- The branches. -/
inductive BranchOp where
  | bcc | bcs | beq | bmi | bne | bpl | bvc | bvs
deriving DecidableEq, Repr

def BranchOp.taken (op : BranchOp) (s : State) : Bool :=
  match op with
  | .bcc => !s.flag .c
  | .bcs => s.flag .c
  | .beq => s.flag .z
  | .bmi => s.flag .n
  | .bne => !s.flag .z
  | .bpl => !s.flag .n
  | .bvc => !s.flag .v
  | .bvs => s.flag .v

def BranchOp.mnemonic : BranchOp → Mnemonic
  | .bcc => .bcc
  | .bcs => .bcs
  | .beq => .beq
  | .bmi => .bmi
  | .bne => .bne
  | .bpl => .bpl
  | .bvc => .bvc
  | .bvs => .bvs

/-! ### The fields each operation leaves alone -/

@[simp] theorem ReadOp.apply_sp (op : ReadOp) (m : Byte) (t : State) : (op.apply m t).sp = t.sp := by cases op <;> rfl
@[simp] theorem ReadOp.apply_pc (op : ReadOp) (m : Byte) (t : State) : (op.apply m t).pc = t.pc := by cases op <;> rfl
@[simp] theorem ReadOp.apply_storage (op : ReadOp) (m : Byte) (t : State) : (op.apply m t).storage = t.storage := by cases op <;> rfl
@[simp] theorem ReadOp.apply_halted (op : ReadOp) (m : Byte) (t : State) : (op.apply m t).halted = t.halted := by cases op <;> rfl
@[simp] theorem ReadOp.apply_banksLoaded (op : ReadOp) (m : Byte) (t : State) : (op.apply m t).banksLoaded = t.banksLoaded := by cases op <;> rfl
@[simp] theorem ReadOp.apply_config (op : ReadOp) (m : Byte) (t : State) : (op.apply m t).config = t.config := by cases op <;> rfl
@[simp] theorem ReadOp.apply_nmiPending (op : ReadOp) (m : Byte) (t : State) : (op.apply m t).nmiPending = t.nmiPending := by cases op <;> rfl
@[simp] theorem ReadOp.apply_irqLine (op : ReadOp) (m : Byte) (t : State) : (op.apply m t).irqLine = t.irqLine := by cases op <;> rfl
@[simp] theorem ReadOp.apply_started (op : ReadOp) (m : Byte) (t : State) : (op.apply m t).started = t.started := by cases op <;> rfl
@[simp] theorem ReadOp.apply_periphReads (op : ReadOp) (m : Byte) (t : State) : (op.apply m t).periphReads = t.periphReads := by cases op <;> rfl
@[simp] theorem ReadOp.apply_portCalls (op : ReadOp) (m : Byte) (t : State) : (op.apply m t).portCalls = t.portCalls := by cases op <;> rfl
@[simp] theorem ReadOp.apply_cycles (op : ReadOp) (m : Byte) (t : State) : (op.apply m t).cycles = t.cycles := by cases op <;> rfl
@[simp] theorem ModifyOp.finish_x (op : ModifyOp) (v r : Byte) (t : State) : (op.finish v r t).x = t.x := by
  cases op <;> rfl
@[simp] theorem ModifyOp.finish_y (op : ModifyOp) (v r : Byte) (t : State) : (op.finish v r t).y = t.y := by
  cases op <;> rfl
@[simp] theorem ModifyOp.finish_sp (op : ModifyOp) (v r : Byte) (t : State) : (op.finish v r t).sp = t.sp := by
  cases op <;> rfl
@[simp] theorem ModifyOp.finish_pc (op : ModifyOp) (v r : Byte) (t : State) : (op.finish v r t).pc = t.pc := by
  cases op <;> rfl
@[simp] theorem ModifyOp.finish_storage (op : ModifyOp) (v r : Byte) (t : State) : (op.finish v r t).storage = t.storage := by
  cases op <;> rfl
@[simp] theorem ModifyOp.finish_halted (op : ModifyOp) (v r : Byte) (t : State) : (op.finish v r t).halted = t.halted := by
  cases op <;> rfl
@[simp] theorem ModifyOp.finish_banksLoaded (op : ModifyOp) (v r : Byte) (t : State) : (op.finish v r t).banksLoaded = t.banksLoaded := by
  cases op <;> rfl
@[simp] theorem ModifyOp.finish_config (op : ModifyOp) (v r : Byte) (t : State) : (op.finish v r t).config = t.config := by
  cases op <;> rfl
@[simp] theorem ModifyOp.finish_nmiPending (op : ModifyOp) (v r : Byte) (t : State) : (op.finish v r t).nmiPending = t.nmiPending := by
  cases op <;> rfl
@[simp] theorem ModifyOp.finish_irqLine (op : ModifyOp) (v r : Byte) (t : State) : (op.finish v r t).irqLine = t.irqLine := by
  cases op <;> rfl
@[simp] theorem ModifyOp.finish_started (op : ModifyOp) (v r : Byte) (t : State) : (op.finish v r t).started = t.started := by
  cases op <;> rfl
@[simp] theorem ModifyOp.finish_periphReads (op : ModifyOp) (v r : Byte) (t : State) : (op.finish v r t).periphReads = t.periphReads := by
  cases op <;> rfl
@[simp] theorem ModifyOp.finish_portCalls (op : ModifyOp) (v r : Byte) (t : State) : (op.finish v r t).portCalls = t.portCalls := by
  cases op <;> rfl
@[simp] theorem ModifyOp.finish_cycles (op : ModifyOp) (v r : Byte) (t : State) : (op.finish v r t).cycles = t.cycles := by
  cases op <;> rfl
@[simp] theorem PlainOp.apply_halted (op : PlainOp) (s : State) : (op.apply s).halted = s.halted := by cases op <;> simp [PlainOp.apply]
@[simp] theorem PlainOp.apply_banksLoaded (op : PlainOp) (s : State) : (op.apply s).banksLoaded = s.banksLoaded := by cases op <;> simp [PlainOp.apply]
@[simp] theorem PlainOp.apply_config (op : PlainOp) (s : State) : (op.apply s).config = s.config := by cases op <;> simp [PlainOp.apply]
@[simp] theorem PlainOp.apply_nmiPending (op : PlainOp) (s : State) : (op.apply s).nmiPending = s.nmiPending := by cases op <;> simp [PlainOp.apply]
@[simp] theorem PlainOp.apply_irqLine (op : PlainOp) (s : State) : (op.apply s).irqLine = s.irqLine := by cases op <;> simp [PlainOp.apply]
@[simp] theorem PlainOp.apply_started (op : PlainOp) (s : State) : (op.apply s).started = s.started := by cases op <;> simp [PlainOp.apply]
@[simp] theorem PlainOp.apply_cycles (op : PlainOp) (s : State) : (op.apply s).cycles = s.cycles := by cases op <;> simp [PlainOp.apply]

/-! ### The forms -/

/-- The forms of the instructions, with their base counts (R203). -/
inductive Form where
  | read (base : Nat) (o : Operand) (op : ReadOp)
  | store (base : Nat) (m : AddrMode) (op : StoreOp)
  /-- An indexed STA, with its other base (R103). -/
  | storeIndexed (base penaltyBase : Nat) (m : AddrMode)
  | modify (base : Nat) (o : Operand) (op : ModifyOp)
  | plain (base : Nat) (op : PlainOp)
  | branch (op : BranchOp) (dd : Byte)
  | jump (addr : Word)
  | jumpIndirect (ptr : Word)
  | call (addr : Word)
  /-- NOP, with or without an operand. -/
  | skip (base : Nat) (o : Operand)
  | stop (opcode : Byte)
deriving DecidableEq, Repr

def Form.run (f : Form) (s : State) : StepOutcome :=
  match f with
  | .read base o op => readInstr base o op.apply s
  | .store base m op => storeInstr base m (op.value s) s
  | .storeIndexed base penaltyBase m =>
    storeInstr (if s.config.storePagePenalty then penaltyBase + s.pagePenalty m else base) m s.a s
  | .modify base o op => modifyInstr base o op.compute op.finish s
  | .plain base op => .next ((op.apply s).charge base)
  | .branch op dd => Machine.branch 2 (op.taken s) dd s
  | .jump addr => .next (({ s with pc := addr }).charge 3)
  | .jumpIndirect ptr => .next (({ (s.indirectTarget ptr).2 with pc := (s.indirectTarget ptr).1 }).charge 5)
  | .call addr => .next (({ s.pushWord .highFirst (s.pc - 1) with pc := addr }).charge 6)
  | .skip base o => .next (s.charge (base + s.operandPenalty o))
  | .stop opcode => raiseFatal opcode s

def Form.mnemonic : Form → Mnemonic
  | .read _ _ op => op.mnemonic
  | .store _ _ op => op.mnemonic
  | .storeIndexed _ _ _ => .sta
  | .modify _ _ op => op.mnemonic
  | .plain _ op => op.mnemonic
  | .branch op _ => op.mnemonic
  | .jump _ | .jumpIndirect _ => .jmp
  | .call _ => .jsr
  | .skip _ _ => .nop
  | .stop _ => .unmapped

/-- The memory operand of an operand form. -/
def Operand.addrMode : Operand → Option AddrMode
  | .memory m => some m
  | .accumulator | .immediate _ => none

def Form.addrMode : Form → Option AddrMode
  | .read _ o _ | .modify _ o _ | .skip _ o => o.addrMode
  | .store _ m _ | .storeIndexed _ _ m => some m
  | .plain _ _ | .branch _ _ | .jump _ | .jumpIndirect _ | .call _ | .stop _ => none

/-- The least count a form returns; a stop returns none. -/
def Form.base : Form → Nat
  | .read base _ _ | .store base _ _ | .modify base _ _ | .plain base _ | .skip base _ => base
  | .storeIndexed base penaltyBase _ => min base penaltyBase
  | .branch _ _ => 2
  | .jump _ => 3
  | .jumpIndirect _ => 5
  | .call _ => 6
  | .stop _ => 0

/-- The form of each instruction. -/
def form : Instr → Form
  | .ldaIndX nn => .read 6 (.memory (.indexedIndirect nn)) .lda
  | .ldaZp nn => .read 3 (.memory (.zeroPage nn)) .lda
  | .ldaImm nn => .read 2 (.immediate nn) .lda
  | .ldaAbs addr => .read 4 (.memory (.absolute addr)) .lda
  | .ldaIndY nn => .read 5 (.memory (.indirectIndexed nn)) .lda
  | .ldaZpX nn => .read 4 (.memory (.zeroPageX nn)) .lda
  | .ldaAbsY addr => .read 4 (.memory (.absoluteY addr)) .lda
  | .ldaAbsX addr => .read 4 (.memory (.absoluteX addr)) .lda
  | .ldxImm nn => .read 2 (.immediate nn) .ldx
  | .ldxZp nn => .read 3 (.memory (.zeroPage nn)) .ldx
  | .ldxAbs addr => .read 4 (.memory (.absolute addr)) .ldx
  | .ldxZpY nn => .read 4 (.memory (.zeroPageY nn)) .ldx
  | .ldxAbsY addr => .read 4 (.memory (.absoluteY addr)) .ldx
  | .ldyImm nn => .read 2 (.immediate nn) .ldy
  | .ldyZp nn => .read 3 (.memory (.zeroPage nn)) .ldy
  | .ldyAbs addr => .read 4 (.memory (.absolute addr)) .ldy
  | .ldyZpX nn => .read 4 (.memory (.zeroPageX nn)) .ldy
  | .ldyAbsX addr => .read 4 (.memory (.absoluteX addr)) .ldy
  | .staIndX nn => .store 6 (.indexedIndirect nn) .sta
  | .staZp nn => .store 3 (.zeroPage nn) .sta
  | .staAbs addr => .store 4 (.absolute addr) .sta
  | .staIndY nn => .storeIndexed 6 5 (.indirectIndexed nn)
  | .staZpX nn => .store 4 (.zeroPageX nn) .sta
  | .staAbsY addr => .storeIndexed 5 4 (.absoluteY addr)
  | .staAbsX addr => .storeIndexed 5 4 (.absoluteX addr)
  | .stxZp nn => .store 3 (.zeroPage nn) .stx
  | .stxAbs addr => .store 4 (.absolute addr) .stx
  | .stxZpY nn => .store 4 (.zeroPageY nn) .stx
  | .styZp nn => .store 3 (.zeroPage nn) .sty
  | .styAbs addr => .store 4 (.absolute addr) .sty
  | .styZpX nn => .store 4 (.zeroPageX nn) .sty
  | .tax => .plain 2 .tax
  | .tay => .plain 2 .tay
  | .tsx => .plain 2 .tsx
  | .txa => .plain 2 .txa
  | .txs => .plain 2 .txs
  | .tya => .plain 2 .tya
  | .adcIndX nn => .read 6 (.memory (.indexedIndirect nn)) .adc
  | .adcZp nn => .read 3 (.memory (.zeroPage nn)) .adc
  | .adcImm nn => .read 2 (.immediate nn) .adc
  | .adcAbs addr => .read 4 (.memory (.absolute addr)) .adc
  | .adcIndY nn => .read 5 (.memory (.indirectIndexed nn)) .adc
  | .adcZpX nn => .read 4 (.memory (.zeroPageX nn)) .adc
  | .adcAbsY addr => .read 4 (.memory (.absoluteY addr)) .adc
  | .adcAbsX addr => .read 4 (.memory (.absoluteX addr)) .adc
  | .sbcIndX nn => .read 6 (.memory (.indexedIndirect nn)) .sbc
  | .sbcZp nn => .read 3 (.memory (.zeroPage nn)) .sbc
  | .sbcImm nn => .read 2 (.immediate nn) .sbc
  | .sbcAbs addr => .read 4 (.memory (.absolute addr)) .sbc
  | .sbcIndY nn => .read 5 (.memory (.indirectIndexed nn)) .sbc
  | .sbcZpX nn => .read 4 (.memory (.zeroPageX nn)) .sbc
  | .sbcAbsY addr => .read 4 (.memory (.absoluteY addr)) .sbc
  | .sbcAbsX addr => .read 4 (.memory (.absoluteX addr)) .sbc
  | .andIndX nn => .read 6 (.memory (.indexedIndirect nn)) .and
  | .andZp nn => .read 3 (.memory (.zeroPage nn)) .and
  | .andImm nn => .read 2 (.immediate nn) .and
  | .andAbs addr => .read 4 (.memory (.absolute addr)) .and
  | .andIndY nn => .read 5 (.memory (.indirectIndexed nn)) .and
  | .andZpX nn => .read 4 (.memory (.zeroPageX nn)) .and
  | .andAbsY addr => .read 4 (.memory (.absoluteY addr)) .and
  | .andAbsX addr => .read 4 (.memory (.absoluteX addr)) .and
  | .oraIndX nn => .read 6 (.memory (.indexedIndirect nn)) .ora
  | .oraZp nn => .read 3 (.memory (.zeroPage nn)) .ora
  | .oraImm nn => .read 2 (.immediate nn) .ora
  | .oraAbs addr => .read 4 (.memory (.absolute addr)) .ora
  | .oraIndY nn => .read 5 (.memory (.indirectIndexed nn)) .ora
  | .oraZpX nn => .read 4 (.memory (.zeroPageX nn)) .ora
  | .oraAbsY addr => .read 4 (.memory (.absoluteY addr)) .ora
  | .oraAbsX addr => .read 4 (.memory (.absoluteX addr)) .ora
  | .eorIndX nn => .read 6 (.memory (.indexedIndirect nn)) .eor
  | .eorZp nn => .read 3 (.memory (.zeroPage nn)) .eor
  | .eorImm nn => .read 2 (.immediate nn) .eor
  | .eorAbs addr => .read 4 (.memory (.absolute addr)) .eor
  | .eorIndY nn => .read 5 (.memory (.indirectIndexed nn)) .eor
  | .eorZpX nn => .read 4 (.memory (.zeroPageX nn)) .eor
  | .eorAbsY addr => .read 4 (.memory (.absoluteY addr)) .eor
  | .eorAbsX addr => .read 4 (.memory (.absoluteX addr)) .eor
  | .bitZp nn => .read 3 (.memory (.zeroPage nn)) .bit
  | .bitAbs addr => .read 4 (.memory (.absolute addr)) .bit
  | .cmpIndX nn => .read 6 (.memory (.indexedIndirect nn)) .cmp
  | .cmpZp nn => .read 3 (.memory (.zeroPage nn)) .cmp
  | .cmpImm nn => .read 2 (.immediate nn) .cmp
  | .cmpAbs addr => .read 4 (.memory (.absolute addr)) .cmp
  | .cmpIndY nn => .read 5 (.memory (.indirectIndexed nn)) .cmp
  | .cmpZpX nn => .read 4 (.memory (.zeroPageX nn)) .cmp
  | .cmpAbsY addr => .read 4 (.memory (.absoluteY addr)) .cmp
  | .cmpAbsX addr => .read 4 (.memory (.absoluteX addr)) .cmp
  | .cpxImm nn => .read 2 (.immediate nn) .cpx
  | .cpxZp nn => .read 3 (.memory (.zeroPage nn)) .cpx
  | .cpxAbs addr => .read 4 (.memory (.absolute addr)) .cpx
  | .cpyImm nn => .read 2 (.immediate nn) .cpy
  | .cpyZp nn => .read 3 (.memory (.zeroPage nn)) .cpy
  | .cpyAbs addr => .read 4 (.memory (.absolute addr)) .cpy
  | .incZp nn => .modify 5 (.memory (.zeroPage nn)) .inc
  | .incAbs addr => .modify 6 (.memory (.absolute addr)) .inc
  | .incZpX nn => .modify 6 (.memory (.zeroPageX nn)) .inc
  | .incAbsX addr => .modify 7 (.memory (.absoluteX addr)) .inc
  | .decZp nn => .modify 5 (.memory (.zeroPage nn)) .dec
  | .decAbs addr => .modify 6 (.memory (.absolute addr)) .dec
  | .decZpX nn => .modify 6 (.memory (.zeroPageX nn)) .dec
  | .decAbsX addr => .modify 7 (.memory (.absoluteX addr)) .dec
  | .inx => .plain 2 .inx
  | .iny => .plain 2 .iny
  | .dex => .plain 2 .dex
  | .dey => .plain 2 .dey
  | .aslZp nn => .modify 5 (.memory (.zeroPage nn)) .asl
  | .aslAcc => .modify 2 .accumulator .asl
  | .aslAbs addr => .modify 6 (.memory (.absolute addr)) .asl
  | .aslZpX nn => .modify 6 (.memory (.zeroPageX nn)) .asl
  | .aslAbsX addr => .modify 7 (.memory (.absoluteX addr)) .asl
  | .lsrZp nn => .modify 5 (.memory (.zeroPage nn)) .lsr
  | .lsrAcc => .modify 2 .accumulator .lsr
  | .lsrAbs addr => .modify 6 (.memory (.absolute addr)) .lsr
  | .lsrZpX nn => .modify 6 (.memory (.zeroPageX nn)) .lsr
  | .lsrAbsX addr => .modify 7 (.memory (.absoluteX addr)) .lsr
  | .rolZp nn => .modify 5 (.memory (.zeroPage nn)) .rol
  | .rolAcc => .modify 2 .accumulator .rol
  | .rolAbs addr => .modify 6 (.memory (.absolute addr)) .rol
  | .rolZpX nn => .modify 6 (.memory (.zeroPageX nn)) .rol
  | .rolAbsX addr => .modify 7 (.memory (.absoluteX addr)) .rol
  | .rorZp nn => .modify 5 (.memory (.zeroPage nn)) .ror
  | .rorAcc => .modify 2 .accumulator .ror
  | .rorAbs addr => .modify 6 (.memory (.absolute addr)) .ror
  | .rorZpX nn => .modify 6 (.memory (.zeroPageX nn)) .ror
  | .rorAbsX addr => .modify 7 (.memory (.absoluteX addr)) .ror
  | .bcc dd => .branch .bcc dd
  | .bcs dd => .branch .bcs dd
  | .beq dd => .branch .beq dd
  | .bmi dd => .branch .bmi dd
  | .bne dd => .branch .bne dd
  | .bpl dd => .branch .bpl dd
  | .bvc dd => .branch .bvc dd
  | .bvs dd => .branch .bvs dd
  | .jmpAbs addr => .jump addr
  | .jmpInd ptr => .jumpIndirect ptr
  | .jsr addr => .call addr
  | .rts => .plain 6 .rts
  | .brk => .plain 7 .brk
  | .rti => .plain 6 .rti
  | .pha => .plain 3 .pha
  | .php => .plain 3 .php
  | .pla => .plain 4 .pla
  | .plp => .plain 4 .plp
  | .clc => .plain 2 .clc
  | .cld => .plain 2 .cld
  | .cli => .plain 2 .cli
  | .clv => .plain 2 .clv
  | .sec => .plain 2 .sec
  | .sed => .plain 2 .sed
  | .sei => .plain 2 .sei
  | .nop => .skip 2 .accumulator
  | .nop04 nn => .skip 3 (.memory (.zeroPage nn))
  | .nop0C addr => .skip 4 (.memory (.absolute addr))
  | .nop14 nn => .skip 4 (.memory (.zeroPageX nn))
  | .nop1A => .skip 2 .accumulator
  | .nop1C addr => .skip 4 (.memory (.absoluteX addr))
  | .nop34 nn => .skip 4 (.memory (.zeroPageX nn))
  | .nop3A => .skip 2 .accumulator
  | .nop3C addr => .skip 4 (.memory (.absoluteX addr))
  | .nop44 nn => .skip 3 (.memory (.zeroPage nn))
  | .nop54 nn => .skip 4 (.memory (.zeroPageX nn))
  | .nop5A => .skip 2 .accumulator
  | .nop5C addr => .skip 4 (.memory (.absoluteX addr))
  | .nop64 nn => .skip 3 (.memory (.zeroPage nn))
  | .nop74 nn => .skip 4 (.memory (.zeroPageX nn))
  | .nop7A => .skip 2 .accumulator
  | .nop7C addr => .skip 4 (.memory (.absoluteX addr))
  | .nop80 nn => .skip 2 (.immediate nn)
  | .nop82 nn => .skip 2 (.immediate nn)
  | .nop89 nn => .skip 2 (.immediate nn)
  | .nopC2 nn => .skip 2 (.immediate nn)
  | .nopD4 nn => .skip 4 (.memory (.zeroPageX nn))
  | .nopDA => .skip 2 .accumulator
  | .nopDC addr => .skip 4 (.memory (.absoluteX addr))
  | .nopE2 nn => .skip 2 (.immediate nn)
  | .nopF4 nn => .skip 4 (.memory (.zeroPageX nn))
  | .nopFA => .skip 2 .accumulator
  | .nopFC addr => .skip 4 (.memory (.absoluteX addr))
  | .laxIndX nn => .read 6 (.memory (.indexedIndirect nn)) .lax
  | .laxZp nn => .read 3 (.memory (.zeroPage nn)) .lax
  | .laxAbs addr => .read 4 (.memory (.absolute addr)) .lax
  | .laxIndY nn => .read 5 (.memory (.indirectIndexed nn)) .lax
  | .laxZpY nn => .read 4 (.memory (.zeroPageY nn)) .lax
  | .laxAbsY addr => .read 4 (.memory (.absoluteY addr)) .lax
  | .saxIndX nn => .store 6 (.indexedIndirect nn) .sax
  | .saxZp nn => .store 3 (.zeroPage nn) .sax
  | .saxAbs addr => .store 4 (.absolute addr) .sax
  | .saxZpY nn => .store 4 (.zeroPageY nn) .sax
  | .sbcEB nn => .read 2 (.immediate nn) .sbc
  | .dcpIndX nn => .modify 8 (.memory (.indexedIndirect nn)) .dcp
  | .dcpZp nn => .modify 5 (.memory (.zeroPage nn)) .dcp
  | .dcpAbs addr => .modify 6 (.memory (.absolute addr)) .dcp
  | .dcpIndY nn => .modify 8 (.memory (.indirectIndexed nn)) .dcp
  | .dcpZpX nn => .modify 6 (.memory (.zeroPageX nn)) .dcp
  | .dcpAbsY addr => .modify 7 (.memory (.absoluteY addr)) .dcp
  | .dcpAbsX addr => .modify 7 (.memory (.absoluteX addr)) .dcp
  | .isbIndX nn => .modify 8 (.memory (.indexedIndirect nn)) .isb
  | .isbZp nn => .modify 5 (.memory (.zeroPage nn)) .isb
  | .isbAbs addr => .modify 6 (.memory (.absolute addr)) .isb
  | .isbIndY nn => .modify 8 (.memory (.indirectIndexed nn)) .isb
  | .isbZpX nn => .modify 6 (.memory (.zeroPageX nn)) .isb
  | .isbAbsY addr => .modify 7 (.memory (.absoluteY addr)) .isb
  | .isbAbsX addr => .modify 7 (.memory (.absoluteX addr)) .isb
  | .sloIndX nn => .modify 8 (.memory (.indexedIndirect nn)) .slo
  | .sloZp nn => .modify 5 (.memory (.zeroPage nn)) .slo
  | .sloAbs addr => .modify 6 (.memory (.absolute addr)) .slo
  | .sloIndY nn => .modify 8 (.memory (.indirectIndexed nn)) .slo
  | .sloZpX nn => .modify 6 (.memory (.zeroPageX nn)) .slo
  | .sloAbsY addr => .modify 7 (.memory (.absoluteY addr)) .slo
  | .sloAbsX addr => .modify 7 (.memory (.absoluteX addr)) .slo
  | .rlaIndX nn => .modify 8 (.memory (.indexedIndirect nn)) .rla
  | .rlaZp nn => .modify 5 (.memory (.zeroPage nn)) .rla
  | .rlaAbs addr => .modify 6 (.memory (.absolute addr)) .rla
  | .rlaIndY nn => .modify 8 (.memory (.indirectIndexed nn)) .rla
  | .rlaZpX nn => .modify 6 (.memory (.zeroPageX nn)) .rla
  | .rlaAbsY addr => .modify 7 (.memory (.absoluteY addr)) .rla
  | .rlaAbsX addr => .modify 7 (.memory (.absoluteX addr)) .rla
  | .sreIndX nn => .modify 8 (.memory (.indexedIndirect nn)) .sre
  | .sreZp nn => .modify 5 (.memory (.zeroPage nn)) .sre
  | .sreAbs addr => .modify 6 (.memory (.absolute addr)) .sre
  | .sreIndY nn => .modify 8 (.memory (.indirectIndexed nn)) .sre
  | .sreZpX nn => .modify 6 (.memory (.zeroPageX nn)) .sre
  | .sreAbsY addr => .modify 7 (.memory (.absoluteY addr)) .sre
  | .sreAbsX addr => .modify 7 (.memory (.absoluteX addr)) .sre
  | .rraIndX nn => .modify 8 (.memory (.indexedIndirect nn)) .rra
  | .rraZp nn => .modify 5 (.memory (.zeroPage nn)) .rra
  | .rraAbs addr => .modify 6 (.memory (.absolute addr)) .rra
  | .rraIndY nn => .modify 8 (.memory (.indirectIndexed nn)) .rra
  | .rraZpX nn => .modify 6 (.memory (.zeroPageX nn)) .rra
  | .rraAbsY addr => .modify 7 (.memory (.absoluteY addr)) .rra
  | .rraAbsX addr => .modify 7 (.memory (.absoluteX addr)) .rra
  | .unmapped opcode => .stop opcode

/-- `exec` of an instruction is the run of its form. -/
theorem exec_eq_run (i : Instr) (s : State) : exec i s = (form i).run s := by cases i <;> rfl

theorem mnemonic_eq_form (i : Instr) : i.mnemonic = (form i).mnemonic := by cases i <;> rfl

theorem addrMode_eq_form (i : Instr) : i.addrMode = (form i).addrMode := by cases i <;> rfl

/-- Every mapped row returns at least two cycles (R80). -/
theorem two_le_base (i : Instr) (h : i.mnemonic ≠ .unmapped) : 2 ≤ (form i).base := by
  cases i <;> first | exact absurd rfl h | exact Nat.le_of_ble_eq_true rfl

/-- A run answers a next state, unless it is the stop of an unmapped byte. -/
theorem Form.run_next (f : Form) (s : State) (h : f.mnemonic ≠ .unmapped) : ∃ t, f.run s = .next t := by
  cases f <;> first | exact ⟨_, rfl⟩ | exact absurd rfl h

/-- The one fault of a run (R176, R177). -/
theorem Form.run_fault (f : Form) (s : State) (r : Fault) (h : f.run s = .fault r) :
    ∃ op, f = .stop op ∧ r = .unmappedOpcode op (s.pc - 1) { s with pc := s.pc - 1, halted := true } := by
  cases f
  case stop op => exact ⟨op, rfl, by simpa [Form.run, raiseFatal] using h.symm⟩
  all_goals cases h

end Sys2Proof.Machine
end

