-- ==== Sys2Proof/Laws/Step.lean ====
section
/-! SUPPORT. What fetching an instruction and one step do, said once for each. -/

namespace Sys2Proof.Machine

/-! ### Fetching -/

/-- Fetching one more byte (R75): one `read8` at `PC`, with `PC` advanced, then the rest. -/
theorem State.fetchBytes_succ (n : Nat) (s : State) :
    s.fetchBytes (n + 1) =
      let b := ({ s with pc := s.pc + 1 } : State).read8 s.pc
      (b.1 :: (b.2.fetchBytes n).1, (b.2.fetchBytes n).2) := rfl

/-- A fetch outside `PERIPH` (R75). -/
theorem State.fetch8_of_code (s : State) (h : isPeriph (translate s.pc) = false) :
    s.fetch8 = (s.byteAt (translate s.pc).toNat, { s with pc := s.pc + 1 }) := by
  rw [State.fetch8, State.read8_of_not_periph _ _ h]
  rfl

/-- Fetching bytes that stand in Storage outside `PERIPH` gives them and moves `PC` past them (R75). -/
theorem State.fetchBytes_of_code (bytes : List Byte) (s : State)
    (h : ∀ k, (hk : k < bytes.length) → isPeriph (translate (s.pc + BitVec.ofNat 16 k)) = false ∧
      s.byteAt (translate (s.pc + BitVec.ofNat 16 k)).toNat = bytes[k]) :
    s.fetchBytes bytes.length = (bytes, { s with pc := s.pc + BitVec.ofNat 16 bytes.length }) := by
  induction bytes generalizing s with
  | nil => simp [State.fetchBytes]
  | cons b bs ih =>
    have h0 := h 0 (by simp)
    simp only [BitVec.add_zero, List.getElem_cons_zero] at h0
    have ih' := ih { s with pc := s.pc + 1 } (fun k hk => by
      have hk1 := h (k + 1) (by simpa using hk)
      have : s.pc + BitVec.ofNat 16 (k + 1) = s.pc + 1 + BitVec.ofNat 16 k := by
        rw [Nat.add_comm, BitVec.ofNat_add, BitVec.add_assoc]; rfl
      rw [this] at hk1
      exact hk1)
    simp only [List.length_cons, State.fetchBytes, State.fetch8_of_code s h0.1, ih', h0.2]
    rw [Nat.add_comm, BitVec.ofNat_add, BitVec.add_assoc]
    rfl

@[simp] theorem State.fetchBytes_a (n : Nat) (s : State) : (s.fetchBytes n).2.a = s.a := by
  induction n generalizing s with
  | zero => rfl
  | succ n ih => simp [State.fetchBytes, ih]
@[simp] theorem State.fetchBytes_x (n : Nat) (s : State) : (s.fetchBytes n).2.x = s.x := by
  induction n generalizing s with
  | zero => rfl
  | succ n ih => simp [State.fetchBytes, ih]
@[simp] theorem State.fetchBytes_y (n : Nat) (s : State) : (s.fetchBytes n).2.y = s.y := by
  induction n generalizing s with
  | zero => rfl
  | succ n ih => simp [State.fetchBytes, ih]
@[simp] theorem State.fetchBytes_sp (n : Nat) (s : State) : (s.fetchBytes n).2.sp = s.sp := by
  induction n generalizing s with
  | zero => rfl
  | succ n ih => simp [State.fetchBytes, ih]
@[simp] theorem State.fetchBytes_p (n : Nat) (s : State) : (s.fetchBytes n).2.p = s.p := by
  induction n generalizing s with
  | zero => rfl
  | succ n ih => simp [State.fetchBytes, ih]
@[simp] theorem State.fetchBytes_storage (n : Nat) (s : State) : (s.fetchBytes n).2.storage = s.storage := by
  induction n generalizing s with
  | zero => rfl
  | succ n ih => simp [State.fetchBytes, ih]
@[simp] theorem State.fetchBytes_halted (n : Nat) (s : State) : (s.fetchBytes n).2.halted = s.halted := by
  induction n generalizing s with
  | zero => rfl
  | succ n ih => simp [State.fetchBytes, ih]
@[simp] theorem State.fetchBytes_banksLoaded (n : Nat) (s : State) : (s.fetchBytes n).2.banksLoaded = s.banksLoaded := by
  induction n generalizing s with
  | zero => rfl
  | succ n ih => simp [State.fetchBytes, ih]
@[simp] theorem State.fetchBytes_config (n : Nat) (s : State) : (s.fetchBytes n).2.config = s.config := by
  induction n generalizing s with
  | zero => rfl
  | succ n ih => simp [State.fetchBytes, ih]
@[simp] theorem State.fetchBytes_nmiPending (n : Nat) (s : State) : (s.fetchBytes n).2.nmiPending = s.nmiPending := by
  induction n generalizing s with
  | zero => rfl
  | succ n ih => simp [State.fetchBytes, ih]
@[simp] theorem State.fetchBytes_irqLine (n : Nat) (s : State) : (s.fetchBytes n).2.irqLine = s.irqLine := by
  induction n generalizing s with
  | zero => rfl
  | succ n ih => simp [State.fetchBytes, ih]
@[simp] theorem State.fetchBytes_started (n : Nat) (s : State) : (s.fetchBytes n).2.started = s.started := by
  induction n generalizing s with
  | zero => rfl
  | succ n ih => simp [State.fetchBytes, ih]
@[simp] theorem State.fetchBytes_cycles (n : Nat) (s : State) : (s.fetchBytes n).2.cycles = s.cycles := by
  induction n generalizing s with
  | zero => rfl
  | succ n ih => simp [State.fetchBytes, ih]
@[simp] theorem State.fetchBytes_pc (n : Nat) (s : State) :
    (s.fetchBytes n).2.pc = s.pc + BitVec.ofNat 16 n := by
  induction n generalizing s with
  | zero => simp [State.fetchBytes]
  | succ n ih =>
    simp only [State.fetchBytes, ih, State.fetch8_pc]
    rw [Nat.add_comm n, BitVec.ofNat_add, BitVec.add_assoc]
    rfl
@[simp] theorem State.fetchBytes_length (n : Nat) (s : State) : (s.fetchBytes n).1.length = n := by
  induction n generalizing s with
  | zero => rfl
  | succ n ih => simp [State.fetchBytes, ih]

@[simp] theorem State.fetchInstr_a (s : State) : s.fetchInstr.after.a = s.a := by
  unfold State.fetchInstr; simp only; split <;> simp
@[simp] theorem State.fetchInstr_x (s : State) : s.fetchInstr.after.x = s.x := by
  unfold State.fetchInstr; simp only; split <;> simp
@[simp] theorem State.fetchInstr_y (s : State) : s.fetchInstr.after.y = s.y := by
  unfold State.fetchInstr; simp only; split <;> simp
@[simp] theorem State.fetchInstr_sp (s : State) : s.fetchInstr.after.sp = s.sp := by
  unfold State.fetchInstr; simp only; split <;> simp
@[simp] theorem State.fetchInstr_p (s : State) : s.fetchInstr.after.p = s.p := by
  unfold State.fetchInstr; simp only; split <;> simp
@[simp] theorem State.fetchInstr_storage (s : State) : s.fetchInstr.after.storage = s.storage := by
  unfold State.fetchInstr; simp only; split <;> simp
@[simp] theorem State.fetchInstr_halted (s : State) : s.fetchInstr.after.halted = s.halted := by
  unfold State.fetchInstr; simp only; split <;> simp
@[simp] theorem State.fetchInstr_banksLoaded (s : State) : s.fetchInstr.after.banksLoaded = s.banksLoaded := by
  unfold State.fetchInstr; simp only; split <;> simp
@[simp] theorem State.fetchInstr_config (s : State) : s.fetchInstr.after.config = s.config := by
  unfold State.fetchInstr; simp only; split <;> simp
@[simp] theorem State.fetchInstr_nmiPending (s : State) : s.fetchInstr.after.nmiPending = s.nmiPending := by
  unfold State.fetchInstr; simp only; split <;> simp
@[simp] theorem State.fetchInstr_irqLine (s : State) : s.fetchInstr.after.irqLine = s.irqLine := by
  unfold State.fetchInstr; simp only; split <;> simp
@[simp] theorem State.fetchInstr_started (s : State) : s.fetchInstr.after.started = s.started := by
  unfold State.fetchInstr; simp only; split <;> simp
@[simp] theorem State.fetchInstr_cycles (s : State) : s.fetchInstr.after.cycles = s.cycles := by
  unfold State.fetchInstr; simp only; split <;> simp

/-- The instruction of a fetch is the one its bytes decode to (R76). -/
theorem instrOf_eq (op : Byte) (bytes rest : List Byte) (i : Instr) (h : decode bytes = .ok i rest) :
    instrOf op bytes = i := by
  simp [instrOf, h]

/-- As many operand bytes as the opcode takes decode with no byte left over (R67). -/
theorem decode_of_operandCount (op : Byte) (bs : List Byte) (h : bs.length = operandCount op) :
    ∃ i, decode (op :: bs) = .ok i [] := by
  unfold operandCount at h
  cases hh : handler op <;> simp only [hh] at h
  · rw [List.length_eq_zero_iff] at h; subst h
    exact ⟨_, decode_unmapped _ _ hh⟩
  · rw [List.length_eq_zero_iff] at h; subst h
    exact ⟨_, decode_implied _ _ _ hh⟩
  · obtain ⟨b, rfl⟩ := List.length_eq_one_iff.1 h
    exact ⟨_, decode_oneByte _ _ _ _ hh⟩
  · obtain ⟨ll, hi, rfl⟩ := List.length_eq_two.1 h
    have d := decode_twoBytes op (word hi ll) _ [] hh
    rw [lo8_word, hi8_word] at d
    exact ⟨_, d⟩

/-- Fetching an opcode byte that is mapped (R76): the operand bytes its handler takes, and `PC` past them. -/
theorem State.fetchInstr_of_mapped (s : State) (h : inMappedSet s.config s.fetch8.1 = true) :
    s.fetchInstr =
      let operands := s.fetch8.2.fetchBytes (operandCount s.fetch8.1)
      { bytes := s.fetch8.1 :: operands.1
        instr := instrOf s.fetch8.1 (s.fetch8.1 :: operands.1)
        after := operands.2 } := by
  simp only [State.fetchInstr, h, if_true]

/-- Fetching an opcode byte that is not mapped (R76): nothing more is fetched. -/
theorem State.fetchInstr_of_unmapped (s : State) (h : inMappedSet s.config s.fetch8.1 = false) :
    s.fetchInstr = { bytes := [s.fetch8.1], instr := .unmapped s.fetch8.1, after := s.fetch8.2 } := by
  simp only [State.fetchInstr, h, Bool.false_eq_true, if_false]

/-! ### The interrupt inputs -/

@[simp] theorem State.assertNmi_of_extension (s : State) (h : s.config.hwInterrupts = true) :
    s.assertNmi = { s with nmiPending := true } := by
  simp [State.assertNmi, h]
@[simp] theorem State.assertNmi_of_no_extension (s : State) (h : s.config.hwInterrupts = false) : s.assertNmi = s := by
  simp [State.assertNmi, h]
@[simp] theorem State.setIrq_of_extension (s : State) (level : Bool) (h : s.config.hwInterrupts = true) :
    s.setIrq level = { s with irqLine := level } := by
  simp [State.setIrq, h]
@[simp] theorem State.setIrq_of_no_extension (s : State) (level : Bool) (h : s.config.hwInterrupts = false) :
    s.setIrq level = s := by
  simp [State.setIrq, h]

/-- Without the extension no interrupt is ever pending (R183). -/
@[simp] theorem State.pendingInterrupt_of_no_extension (s : State) (h : s.config.hwInterrupts = false) :
    s.pendingInterrupt = none := by
  simp [State.pendingInterrupt, h]

/-! ### One step -/

/-- A step that takes no interrupt (R76). -/
theorem step_of_fetch (s : State) (hh : s.halted = false) (hi : s.pendingInterrupt = none) :
    step s = exec s.beginStep.fetchInstr.instr s.beginStep.fetchInstr.after := by
  simp only [step, hh, hi, Bool.false_eq_true, if_false]

/-- A step that takes an interrupt (R185). -/
theorem step_of_interrupt (s : State) (k : Interrupt) (hh : s.halted = false) (hi : s.pendingInterrupt = some k) :
    step s = .next (s.beginStep.takeInterrupt k) := by
  simp only [step, hh, hi, Bool.false_eq_true, if_false]

/-- A step of a halted block (R178). -/
theorem step_of_halted (s : State) (hh : s.halted = true) : step s = .fault .halted := by
  simp only [step, hh, if_true]

end Sys2Proof.Machine
end

