-- ==== Sys2Proof/Laws/Invariant.lean ====
section
/-! SUPPORT. Every shared operation keeps the machine invariant. -/

namespace Sys2Proof

open Machine

/-- The invariant speaks of Storage, `SP`, `P` and the bank count alone. -/
theorem MachineInv.congr {s t : State} (h : MachineInv s) (hm : t.storage = s.storage) (hsp : t.sp = s.sp) (hp : t.p = s.p)
    (hb : t.banksLoaded = s.banksLoaded) : MachineInv t where
  storage_wf := hm ▸ h.storage_wf
  sp_in_page_one := hsp ▸ h.sp_in_page_one
  unused_reads_one := by simpa [State.flag, hp] using h.unused_reads_one
  break_stored_zero := by simpa [State.flag, hp] using h.break_stored_zero
  banks_at_most_two := hb ▸ h.banks_at_most_two

/-- Loading `P` keeps the invariant: bits 5 and 4 are hard-wired (R26, R27). -/
theorem MachineInv.setP {s : State} (h : MachineInv s) (v : Byte) : MachineInv (s.setP v) where
  storage_wf := h.storage_wf
  sp_in_page_one := h.sp_in_page_one
  unused_reads_one := State.flag_u_setP s v
  break_stored_zero := State.flag_b_setP s v
  banks_at_most_two := h.banks_at_most_two

theorem MachineInv.setFlag {s : State} (h : MachineInv s) (f : Flag) (b : Bool) : MachineInv (s.setFlag f b) := h.setP _

theorem MachineInv.setNZ {s : State} (h : MachineInv s) (v : Byte) : MachineInv (s.setNZ v) := (h.setFlag _ _).setFlag _ _

theorem MachineInv.setA {s : State} (h : MachineInv s) (v : Byte) : MachineInv (s.setA v) :=
  MachineInv.setNZ (s := { s with a := v }) (h.congr rfl rfl rfl rfl) v

theorem MachineInv.setX {s : State} (h : MachineInv s) (v : Byte) : MachineInv (s.setX v) :=
  MachineInv.setNZ (s := { s with x := v }) (h.congr rfl rfl rfl rfl) v

theorem MachineInv.setY {s : State} (h : MachineInv s) (v : Byte) : MachineInv (s.setY v) :=
  MachineInv.setNZ (s := { s with y := v }) (h.congr rfl rfl rfl rfl) v

theorem MachineInv.addToA {s : State} (h : MachineInv s) (b : Byte) : MachineInv (s.addToA b) :=
  ((MachineInv.setNZ (s := { s with a := (add8 s.a b (s.flag .c)).value }) (h.congr rfl rfl rfl rfl) _).setFlag _ _).setFlag _ _

theorem MachineInv.compare {s : State} (h : MachineInv s) (r m : Byte) : MachineInv (s.compare r m) :=
  ((h.setFlag _ _).setFlag _ _).setFlag _ _

theorem MachineInv.charge {s : State} (h : MachineInv s) (n : Nat) : MachineInv (s.charge n) := h.congr rfl rfl rfl rfl

theorem MachineInv.withPc {s : State} (h : MachineInv s) (v : Word) : MachineInv { s with pc := v } := h.congr rfl rfl rfl rfl

theorem MachineInv.setSp {s : State} (h : MachineInv s) (lo : Byte) : MachineInv (s.setSp lo) where
  storage_wf := h.storage_wf
  sp_in_page_one := by simp
  unused_reads_one := h.unused_reads_one
  break_stored_zero := h.break_stored_zero
  banks_at_most_two := h.banks_at_most_two

theorem MachineInv.read8 {s : State} (h : MachineInv s) (a : Word) : MachineInv (s.read8 a).2 := h.congr (by simp) (by simp) (by simp) (by simp)

theorem MachineInv.read16 {s : State} (h : MachineInv s) (a : Word) : MachineInv (s.read16 a).2 :=
  h.congr (by simp) (by simp) (by simp) (by simp)

theorem MachineInv.write8 {s : State} (h : MachineInv s) (a : Word) (v : Byte) : MachineInv (s.write8 a v) where
  storage_wf := by
    rw [State.write8_storage]
    exact Memory.wf_write _ _ _ h.storage_wf (Machine.translate a).isLt
  sp_in_page_one := by simpa using h.sp_in_page_one
  unused_reads_one := by simpa using h.unused_reads_one
  break_stored_zero := by simpa using h.break_stored_zero
  banks_at_most_two := by simpa using h.banks_at_most_two

theorem MachineInv.push {s : State} (h : MachineInv s) (v : Byte) : MachineInv (s.push v) := (h.write8 _ _).setSp _

theorem MachineInv.pull {s : State} (h : MachineInv s) : MachineInv s.pull.2 := (h.setSp _).read8 _

theorem MachineInv.pushWord {s : State} (h : MachineInv s) (order : PushOrder) (v : Word) : MachineInv (s.pushWord order v) := by
  cases order <;> exact (h.push _).push _

theorem MachineInv.pullWord {s : State} (h : MachineInv s) : MachineInv s.pullWord.2 := h.pull.pull

theorem MachineInv.fetch8 {s : State} (h : MachineInv s) : MachineInv s.fetch8.2 := (h.withPc _).read8 _

theorem MachineInv.takeException {s : State} (h : MachineInv s) (ret : Word) (order : PushOrder) (status : Byte)
    (vector : Word) : MachineInv (s.takeException ret order status vector) :=
  ((((h.pushWord _ _).push _).setFlag _ _).read16 _).withPc _

theorem MachineInv.returnFromException {s : State} (h : MachineInv s) : MachineInv s.returnFromException :=
  (((h.pull.setP _).pullWord).withPc _)

theorem MachineInv.beginStep {s : State} (h : MachineInv s) : MachineInv s.beginStep := h.congr rfl rfl rfl rfl

theorem MachineInv.fetchInstr {s : State} (h : MachineInv s) : MachineInv s.fetchInstr.after :=
  h.congr (by simp) (by simp) (by simp) (by simp)

theorem MachineInv.takeInterrupt {s : State} (h : MachineInv s) (k : Interrupt) : MachineInv (s.takeInterrupt k) := by
  cases k
  · exact (MachineInv.takeException (s := { s with nmiPending := false }) (h.congr rfl rfl rfl rfl) _ _ _ _).charge _
  · exact (h.takeException _ _ _ _).charge _

/-! ### The shapes of instructions with an operand -/

theorem MachineInv.readOperand {s : State} (h : MachineInv s) (o : Operand) : MachineInv (s.readOperand o).2 :=
  h.congr (by simp) (by simp) (by simp) (by simp)

theorem MachineInv.writeBack {s : State} (h : MachineInv s) (o : Operand) (ea : AddrMode → Word) (v : Byte) :
    MachineInv (s.writeBack o ea v) := by
  cases o
  · exact h.congr rfl rfl rfl rfl
  · exact h
  · exact h.write8 _ _

/-- An instruction that reads its operand keeps the invariant if its operation does. -/
theorem MachineInv.readInstr {s t : State} (h : MachineInv s) {base : Nat} {o : Operand} {operate : Byte → State → State}
    (hop : ∀ m u, MachineInv u → MachineInv (operate m u)) (ht : readInstr base o operate s = .next t) : MachineInv t := by
  cases ht
  exact (hop _ _ (h.readOperand o)).charge _

theorem MachineInv.storeInstr {s t : State} (h : MachineInv s) {base : Nat} {m : AddrMode} {v : Byte}
    (ht : storeInstr base m v s = .next t) : MachineInv t := by
  cases ht
  exact (h.write8 _ _).charge _

/-- A read-modify-write keeps the invariant if what follows the write back does. -/
theorem MachineInv.modifyInstr {s t : State} (h : MachineInv s) {base : Nat} {o : Operand} {compute : Byte → State → Byte}
    {finish : Byte → Byte → State → State} (hf : ∀ v r u, MachineInv u → MachineInv (finish v r u))
    (ht : modifyInstr base o compute finish s = .next t) : MachineInv t := by
  cases ht
  exact (hf _ _ _ ((h.readOperand o).writeBack _ _ _)).charge _

/-! ### The operations of the forms -/

theorem MachineInv.readOp {s : State} (h : MachineInv s) (op : ReadOp) (m : Byte) : MachineInv (op.apply m s) := by
  cases op
  case lda | and | ora | eor => exact h.setA _
  case ldx => exact h.setX _
  case ldy => exact h.setY _
  case adc | sbc => exact h.addToA _
  case bit => exact ((h.setFlag _ _).setFlag _ _).setFlag _ _
  case cmp | cpx | cpy => exact h.compare _ _
  case lax => exact (h.setA _).setX _

theorem MachineInv.modifyOp {s : State} (h : MachineInv s) (op : ModifyOp) (v r : Byte) :
    MachineInv (op.finish v r s) := by
  cases op
  case inc | dec => exact h.setNZ _
  case asl | lsr | rol | ror => exact (h.setFlag _ _).setNZ _
  case dcp => exact h.compare _ _
  case isb => exact h.addToA _
  case slo | rla | sre => exact (h.setFlag _ _).setA _
  case rra => exact (h.setFlag _ _).addToA _

theorem MachineInv.plainOp {s : State} (h : MachineInv s) (op : PlainOp) : MachineInv (op.apply s) := by
  cases op
  case tax | tsx | inx | dex => exact h.setX _
  case tay | iny | dey => exact h.setY _
  case txa | tya => exact h.setA _
  case txs => exact h.setSp _
  case rts => exact h.pullWord.withPc _
  case brk => exact h.takeException _ _ _ _
  case rti => exact h.returnFromException
  case pha | php => exact h.push _
  case pla => exact h.pull.setA _
  case plp => exact h.pull.setP _
  case clc | cld | cli | clv | sec | sed | sei => exact h.setFlag _ _

end Sys2Proof
end

