-- ==== Sys2Proof/Laws/PerInstr.lean ====
section
/-! SUPPORT. The family EncodedLength of LAWS.json: the encoding of a well-formed instruction is an opcode byte
and as many operand bytes as the dispatch table gives that opcode (R67, R68). One lemma per constructor of Instr. -/

namespace Sys2Proof.Laws.EncodedLength

def Statement (i : Instr) : Prop :=
  i.wellFormed = true → ∃ opcode operands, encode i = opcode :: operands ∧ operands.length = operandCount opcode

/-- An instruction whose encoding is spelled out, and agrees with the table. -/
theorem of_encode {i : Instr} {opcode : Byte} {operands : List Byte} (h : encode i = opcode :: operands)
    (hl : operands.length = operandCount opcode) : Statement i :=
  fun _ => ⟨opcode, operands, h, hl⟩

theorem ldaIndX (nn : Byte) : Statement (.ldaIndX nn) := of_encode rfl rfl
theorem ldaZp (nn : Byte) : Statement (.ldaZp nn) := of_encode rfl rfl
theorem ldaImm (nn : Byte) : Statement (.ldaImm nn) := of_encode rfl rfl
theorem ldaAbs (addr : Word) : Statement (.ldaAbs addr) := of_encode rfl rfl
theorem ldaIndY (nn : Byte) : Statement (.ldaIndY nn) := of_encode rfl rfl
theorem ldaZpX (nn : Byte) : Statement (.ldaZpX nn) := of_encode rfl rfl
theorem ldaAbsY (addr : Word) : Statement (.ldaAbsY addr) := of_encode rfl rfl
theorem ldaAbsX (addr : Word) : Statement (.ldaAbsX addr) := of_encode rfl rfl
theorem ldxImm (nn : Byte) : Statement (.ldxImm nn) := of_encode rfl rfl
theorem ldxZp (nn : Byte) : Statement (.ldxZp nn) := of_encode rfl rfl
theorem ldxAbs (addr : Word) : Statement (.ldxAbs addr) := of_encode rfl rfl
theorem ldxZpY (nn : Byte) : Statement (.ldxZpY nn) := of_encode rfl rfl
theorem ldxAbsY (addr : Word) : Statement (.ldxAbsY addr) := of_encode rfl rfl
theorem ldyImm (nn : Byte) : Statement (.ldyImm nn) := of_encode rfl rfl
theorem ldyZp (nn : Byte) : Statement (.ldyZp nn) := of_encode rfl rfl
theorem ldyAbs (addr : Word) : Statement (.ldyAbs addr) := of_encode rfl rfl
theorem ldyZpX (nn : Byte) : Statement (.ldyZpX nn) := of_encode rfl rfl
theorem ldyAbsX (addr : Word) : Statement (.ldyAbsX addr) := of_encode rfl rfl
theorem staIndX (nn : Byte) : Statement (.staIndX nn) := of_encode rfl rfl
theorem staZp (nn : Byte) : Statement (.staZp nn) := of_encode rfl rfl
theorem staAbs (addr : Word) : Statement (.staAbs addr) := of_encode rfl rfl
theorem staIndY (nn : Byte) : Statement (.staIndY nn) := of_encode rfl rfl
theorem staZpX (nn : Byte) : Statement (.staZpX nn) := of_encode rfl rfl
theorem staAbsY (addr : Word) : Statement (.staAbsY addr) := of_encode rfl rfl
theorem staAbsX (addr : Word) : Statement (.staAbsX addr) := of_encode rfl rfl
theorem stxZp (nn : Byte) : Statement (.stxZp nn) := of_encode rfl rfl
theorem stxAbs (addr : Word) : Statement (.stxAbs addr) := of_encode rfl rfl
theorem stxZpY (nn : Byte) : Statement (.stxZpY nn) := of_encode rfl rfl
theorem styZp (nn : Byte) : Statement (.styZp nn) := of_encode rfl rfl
theorem styAbs (addr : Word) : Statement (.styAbs addr) := of_encode rfl rfl
theorem styZpX (nn : Byte) : Statement (.styZpX nn) := of_encode rfl rfl
theorem tax : Statement .tax := of_encode rfl rfl
theorem tay : Statement .tay := of_encode rfl rfl
theorem tsx : Statement .tsx := of_encode rfl rfl
theorem txa : Statement .txa := of_encode rfl rfl
theorem txs : Statement .txs := of_encode rfl rfl
theorem tya : Statement .tya := of_encode rfl rfl
theorem adcIndX (nn : Byte) : Statement (.adcIndX nn) := of_encode rfl rfl
theorem adcZp (nn : Byte) : Statement (.adcZp nn) := of_encode rfl rfl
theorem adcImm (nn : Byte) : Statement (.adcImm nn) := of_encode rfl rfl
theorem adcAbs (addr : Word) : Statement (.adcAbs addr) := of_encode rfl rfl
theorem adcIndY (nn : Byte) : Statement (.adcIndY nn) := of_encode rfl rfl
theorem adcZpX (nn : Byte) : Statement (.adcZpX nn) := of_encode rfl rfl
theorem adcAbsY (addr : Word) : Statement (.adcAbsY addr) := of_encode rfl rfl
theorem adcAbsX (addr : Word) : Statement (.adcAbsX addr) := of_encode rfl rfl
theorem sbcIndX (nn : Byte) : Statement (.sbcIndX nn) := of_encode rfl rfl
theorem sbcZp (nn : Byte) : Statement (.sbcZp nn) := of_encode rfl rfl
theorem sbcImm (nn : Byte) : Statement (.sbcImm nn) := of_encode rfl rfl
theorem sbcAbs (addr : Word) : Statement (.sbcAbs addr) := of_encode rfl rfl
theorem sbcIndY (nn : Byte) : Statement (.sbcIndY nn) := of_encode rfl rfl
theorem sbcZpX (nn : Byte) : Statement (.sbcZpX nn) := of_encode rfl rfl
theorem sbcAbsY (addr : Word) : Statement (.sbcAbsY addr) := of_encode rfl rfl
theorem sbcAbsX (addr : Word) : Statement (.sbcAbsX addr) := of_encode rfl rfl
theorem andIndX (nn : Byte) : Statement (.andIndX nn) := of_encode rfl rfl
theorem andZp (nn : Byte) : Statement (.andZp nn) := of_encode rfl rfl
theorem andImm (nn : Byte) : Statement (.andImm nn) := of_encode rfl rfl
theorem andAbs (addr : Word) : Statement (.andAbs addr) := of_encode rfl rfl
theorem andIndY (nn : Byte) : Statement (.andIndY nn) := of_encode rfl rfl
theorem andZpX (nn : Byte) : Statement (.andZpX nn) := of_encode rfl rfl
theorem andAbsY (addr : Word) : Statement (.andAbsY addr) := of_encode rfl rfl
theorem andAbsX (addr : Word) : Statement (.andAbsX addr) := of_encode rfl rfl
theorem oraIndX (nn : Byte) : Statement (.oraIndX nn) := of_encode rfl rfl
theorem oraZp (nn : Byte) : Statement (.oraZp nn) := of_encode rfl rfl
theorem oraImm (nn : Byte) : Statement (.oraImm nn) := of_encode rfl rfl
theorem oraAbs (addr : Word) : Statement (.oraAbs addr) := of_encode rfl rfl
theorem oraIndY (nn : Byte) : Statement (.oraIndY nn) := of_encode rfl rfl
theorem oraZpX (nn : Byte) : Statement (.oraZpX nn) := of_encode rfl rfl
theorem oraAbsY (addr : Word) : Statement (.oraAbsY addr) := of_encode rfl rfl
theorem oraAbsX (addr : Word) : Statement (.oraAbsX addr) := of_encode rfl rfl
theorem eorIndX (nn : Byte) : Statement (.eorIndX nn) := of_encode rfl rfl
theorem eorZp (nn : Byte) : Statement (.eorZp nn) := of_encode rfl rfl
theorem eorImm (nn : Byte) : Statement (.eorImm nn) := of_encode rfl rfl
theorem eorAbs (addr : Word) : Statement (.eorAbs addr) := of_encode rfl rfl
theorem eorIndY (nn : Byte) : Statement (.eorIndY nn) := of_encode rfl rfl
theorem eorZpX (nn : Byte) : Statement (.eorZpX nn) := of_encode rfl rfl
theorem eorAbsY (addr : Word) : Statement (.eorAbsY addr) := of_encode rfl rfl
theorem eorAbsX (addr : Word) : Statement (.eorAbsX addr) := of_encode rfl rfl
theorem bitZp (nn : Byte) : Statement (.bitZp nn) := of_encode rfl rfl
theorem bitAbs (addr : Word) : Statement (.bitAbs addr) := of_encode rfl rfl
theorem cmpIndX (nn : Byte) : Statement (.cmpIndX nn) := of_encode rfl rfl
theorem cmpZp (nn : Byte) : Statement (.cmpZp nn) := of_encode rfl rfl
theorem cmpImm (nn : Byte) : Statement (.cmpImm nn) := of_encode rfl rfl
theorem cmpAbs (addr : Word) : Statement (.cmpAbs addr) := of_encode rfl rfl
theorem cmpIndY (nn : Byte) : Statement (.cmpIndY nn) := of_encode rfl rfl
theorem cmpZpX (nn : Byte) : Statement (.cmpZpX nn) := of_encode rfl rfl
theorem cmpAbsY (addr : Word) : Statement (.cmpAbsY addr) := of_encode rfl rfl
theorem cmpAbsX (addr : Word) : Statement (.cmpAbsX addr) := of_encode rfl rfl
theorem cpxImm (nn : Byte) : Statement (.cpxImm nn) := of_encode rfl rfl
theorem cpxZp (nn : Byte) : Statement (.cpxZp nn) := of_encode rfl rfl
theorem cpxAbs (addr : Word) : Statement (.cpxAbs addr) := of_encode rfl rfl
theorem cpyImm (nn : Byte) : Statement (.cpyImm nn) := of_encode rfl rfl
theorem cpyZp (nn : Byte) : Statement (.cpyZp nn) := of_encode rfl rfl
theorem cpyAbs (addr : Word) : Statement (.cpyAbs addr) := of_encode rfl rfl
theorem incZp (nn : Byte) : Statement (.incZp nn) := of_encode rfl rfl
theorem incAbs (addr : Word) : Statement (.incAbs addr) := of_encode rfl rfl
theorem incZpX (nn : Byte) : Statement (.incZpX nn) := of_encode rfl rfl
theorem incAbsX (addr : Word) : Statement (.incAbsX addr) := of_encode rfl rfl
theorem decZp (nn : Byte) : Statement (.decZp nn) := of_encode rfl rfl
theorem decAbs (addr : Word) : Statement (.decAbs addr) := of_encode rfl rfl
theorem decZpX (nn : Byte) : Statement (.decZpX nn) := of_encode rfl rfl
theorem decAbsX (addr : Word) : Statement (.decAbsX addr) := of_encode rfl rfl
theorem inx : Statement .inx := of_encode rfl rfl
theorem iny : Statement .iny := of_encode rfl rfl
theorem dex : Statement .dex := of_encode rfl rfl
theorem dey : Statement .dey := of_encode rfl rfl
theorem aslZp (nn : Byte) : Statement (.aslZp nn) := of_encode rfl rfl
theorem aslAcc : Statement .aslAcc := of_encode rfl rfl
theorem aslAbs (addr : Word) : Statement (.aslAbs addr) := of_encode rfl rfl
theorem aslZpX (nn : Byte) : Statement (.aslZpX nn) := of_encode rfl rfl
theorem aslAbsX (addr : Word) : Statement (.aslAbsX addr) := of_encode rfl rfl
theorem lsrZp (nn : Byte) : Statement (.lsrZp nn) := of_encode rfl rfl
theorem lsrAcc : Statement .lsrAcc := of_encode rfl rfl
theorem lsrAbs (addr : Word) : Statement (.lsrAbs addr) := of_encode rfl rfl
theorem lsrZpX (nn : Byte) : Statement (.lsrZpX nn) := of_encode rfl rfl
theorem lsrAbsX (addr : Word) : Statement (.lsrAbsX addr) := of_encode rfl rfl
theorem rolZp (nn : Byte) : Statement (.rolZp nn) := of_encode rfl rfl
theorem rolAcc : Statement .rolAcc := of_encode rfl rfl
theorem rolAbs (addr : Word) : Statement (.rolAbs addr) := of_encode rfl rfl
theorem rolZpX (nn : Byte) : Statement (.rolZpX nn) := of_encode rfl rfl
theorem rolAbsX (addr : Word) : Statement (.rolAbsX addr) := of_encode rfl rfl
theorem rorZp (nn : Byte) : Statement (.rorZp nn) := of_encode rfl rfl
theorem rorAcc : Statement .rorAcc := of_encode rfl rfl
theorem rorAbs (addr : Word) : Statement (.rorAbs addr) := of_encode rfl rfl
theorem rorZpX (nn : Byte) : Statement (.rorZpX nn) := of_encode rfl rfl
theorem rorAbsX (addr : Word) : Statement (.rorAbsX addr) := of_encode rfl rfl
theorem bcc (dd : Byte) : Statement (.bcc dd) := of_encode rfl rfl
theorem bcs (dd : Byte) : Statement (.bcs dd) := of_encode rfl rfl
theorem beq (dd : Byte) : Statement (.beq dd) := of_encode rfl rfl
theorem bmi (dd : Byte) : Statement (.bmi dd) := of_encode rfl rfl
theorem bne (dd : Byte) : Statement (.bne dd) := of_encode rfl rfl
theorem bpl (dd : Byte) : Statement (.bpl dd) := of_encode rfl rfl
theorem bvc (dd : Byte) : Statement (.bvc dd) := of_encode rfl rfl
theorem bvs (dd : Byte) : Statement (.bvs dd) := of_encode rfl rfl
theorem jmpAbs (addr : Word) : Statement (.jmpAbs addr) := of_encode rfl rfl
theorem jmpInd (ptr : Word) : Statement (.jmpInd ptr) := of_encode rfl rfl
theorem jsr (addr : Word) : Statement (.jsr addr) := of_encode rfl rfl
theorem rts : Statement .rts := of_encode rfl rfl
theorem brk : Statement .brk := of_encode rfl rfl
theorem rti : Statement .rti := of_encode rfl rfl
theorem pha : Statement .pha := of_encode rfl rfl
theorem php : Statement .php := of_encode rfl rfl
theorem pla : Statement .pla := of_encode rfl rfl
theorem plp : Statement .plp := of_encode rfl rfl
theorem clc : Statement .clc := of_encode rfl rfl
theorem cld : Statement .cld := of_encode rfl rfl
theorem cli : Statement .cli := of_encode rfl rfl
theorem clv : Statement .clv := of_encode rfl rfl
theorem sec : Statement .sec := of_encode rfl rfl
theorem sed : Statement .sed := of_encode rfl rfl
theorem sei : Statement .sei := of_encode rfl rfl
theorem nop : Statement .nop := of_encode rfl rfl
theorem nop04 (nn : Byte) : Statement (.nop04 nn) := of_encode rfl rfl
theorem nop0C (addr : Word) : Statement (.nop0C addr) := of_encode rfl rfl
theorem nop14 (nn : Byte) : Statement (.nop14 nn) := of_encode rfl rfl
theorem nop1A : Statement .nop1A := of_encode rfl rfl
theorem nop1C (addr : Word) : Statement (.nop1C addr) := of_encode rfl rfl
theorem nop34 (nn : Byte) : Statement (.nop34 nn) := of_encode rfl rfl
theorem nop3A : Statement .nop3A := of_encode rfl rfl
theorem nop3C (addr : Word) : Statement (.nop3C addr) := of_encode rfl rfl
theorem nop44 (nn : Byte) : Statement (.nop44 nn) := of_encode rfl rfl
theorem nop54 (nn : Byte) : Statement (.nop54 nn) := of_encode rfl rfl
theorem nop5A : Statement .nop5A := of_encode rfl rfl
theorem nop5C (addr : Word) : Statement (.nop5C addr) := of_encode rfl rfl
theorem nop64 (nn : Byte) : Statement (.nop64 nn) := of_encode rfl rfl
theorem nop74 (nn : Byte) : Statement (.nop74 nn) := of_encode rfl rfl
theorem nop7A : Statement .nop7A := of_encode rfl rfl
theorem nop7C (addr : Word) : Statement (.nop7C addr) := of_encode rfl rfl
theorem nop80 (nn : Byte) : Statement (.nop80 nn) := of_encode rfl rfl
theorem nop82 (nn : Byte) : Statement (.nop82 nn) := of_encode rfl rfl
theorem nop89 (nn : Byte) : Statement (.nop89 nn) := of_encode rfl rfl
theorem nopC2 (nn : Byte) : Statement (.nopC2 nn) := of_encode rfl rfl
theorem nopD4 (nn : Byte) : Statement (.nopD4 nn) := of_encode rfl rfl
theorem nopDA : Statement .nopDA := of_encode rfl rfl
theorem nopDC (addr : Word) : Statement (.nopDC addr) := of_encode rfl rfl
theorem nopE2 (nn : Byte) : Statement (.nopE2 nn) := of_encode rfl rfl
theorem nopF4 (nn : Byte) : Statement (.nopF4 nn) := of_encode rfl rfl
theorem nopFA : Statement .nopFA := of_encode rfl rfl
theorem nopFC (addr : Word) : Statement (.nopFC addr) := of_encode rfl rfl
theorem laxIndX (nn : Byte) : Statement (.laxIndX nn) := of_encode rfl rfl
theorem laxZp (nn : Byte) : Statement (.laxZp nn) := of_encode rfl rfl
theorem laxAbs (addr : Word) : Statement (.laxAbs addr) := of_encode rfl rfl
theorem laxIndY (nn : Byte) : Statement (.laxIndY nn) := of_encode rfl rfl
theorem laxZpY (nn : Byte) : Statement (.laxZpY nn) := of_encode rfl rfl
theorem laxAbsY (addr : Word) : Statement (.laxAbsY addr) := of_encode rfl rfl
theorem saxIndX (nn : Byte) : Statement (.saxIndX nn) := of_encode rfl rfl
theorem saxZp (nn : Byte) : Statement (.saxZp nn) := of_encode rfl rfl
theorem saxAbs (addr : Word) : Statement (.saxAbs addr) := of_encode rfl rfl
theorem saxZpY (nn : Byte) : Statement (.saxZpY nn) := of_encode rfl rfl
theorem sbcEB (nn : Byte) : Statement (.sbcEB nn) := of_encode rfl rfl
theorem dcpIndX (nn : Byte) : Statement (.dcpIndX nn) := of_encode rfl rfl
theorem dcpZp (nn : Byte) : Statement (.dcpZp nn) := of_encode rfl rfl
theorem dcpAbs (addr : Word) : Statement (.dcpAbs addr) := of_encode rfl rfl
theorem dcpIndY (nn : Byte) : Statement (.dcpIndY nn) := of_encode rfl rfl
theorem dcpZpX (nn : Byte) : Statement (.dcpZpX nn) := of_encode rfl rfl
theorem dcpAbsY (addr : Word) : Statement (.dcpAbsY addr) := of_encode rfl rfl
theorem dcpAbsX (addr : Word) : Statement (.dcpAbsX addr) := of_encode rfl rfl
theorem isbIndX (nn : Byte) : Statement (.isbIndX nn) := of_encode rfl rfl
theorem isbZp (nn : Byte) : Statement (.isbZp nn) := of_encode rfl rfl
theorem isbAbs (addr : Word) : Statement (.isbAbs addr) := of_encode rfl rfl
theorem isbIndY (nn : Byte) : Statement (.isbIndY nn) := of_encode rfl rfl
theorem isbZpX (nn : Byte) : Statement (.isbZpX nn) := of_encode rfl rfl
theorem isbAbsY (addr : Word) : Statement (.isbAbsY addr) := of_encode rfl rfl
theorem isbAbsX (addr : Word) : Statement (.isbAbsX addr) := of_encode rfl rfl
theorem sloIndX (nn : Byte) : Statement (.sloIndX nn) := of_encode rfl rfl
theorem sloZp (nn : Byte) : Statement (.sloZp nn) := of_encode rfl rfl
theorem sloAbs (addr : Word) : Statement (.sloAbs addr) := of_encode rfl rfl
theorem sloIndY (nn : Byte) : Statement (.sloIndY nn) := of_encode rfl rfl
theorem sloZpX (nn : Byte) : Statement (.sloZpX nn) := of_encode rfl rfl
theorem sloAbsY (addr : Word) : Statement (.sloAbsY addr) := of_encode rfl rfl
theorem sloAbsX (addr : Word) : Statement (.sloAbsX addr) := of_encode rfl rfl
theorem rlaIndX (nn : Byte) : Statement (.rlaIndX nn) := of_encode rfl rfl
theorem rlaZp (nn : Byte) : Statement (.rlaZp nn) := of_encode rfl rfl
theorem rlaAbs (addr : Word) : Statement (.rlaAbs addr) := of_encode rfl rfl
theorem rlaIndY (nn : Byte) : Statement (.rlaIndY nn) := of_encode rfl rfl
theorem rlaZpX (nn : Byte) : Statement (.rlaZpX nn) := of_encode rfl rfl
theorem rlaAbsY (addr : Word) : Statement (.rlaAbsY addr) := of_encode rfl rfl
theorem rlaAbsX (addr : Word) : Statement (.rlaAbsX addr) := of_encode rfl rfl
theorem sreIndX (nn : Byte) : Statement (.sreIndX nn) := of_encode rfl rfl
theorem sreZp (nn : Byte) : Statement (.sreZp nn) := of_encode rfl rfl
theorem sreAbs (addr : Word) : Statement (.sreAbs addr) := of_encode rfl rfl
theorem sreIndY (nn : Byte) : Statement (.sreIndY nn) := of_encode rfl rfl
theorem sreZpX (nn : Byte) : Statement (.sreZpX nn) := of_encode rfl rfl
theorem sreAbsY (addr : Word) : Statement (.sreAbsY addr) := of_encode rfl rfl
theorem sreAbsX (addr : Word) : Statement (.sreAbsX addr) := of_encode rfl rfl
theorem rraIndX (nn : Byte) : Statement (.rraIndX nn) := of_encode rfl rfl
theorem rraZp (nn : Byte) : Statement (.rraZp nn) := of_encode rfl rfl
theorem rraAbs (addr : Word) : Statement (.rraAbs addr) := of_encode rfl rfl
theorem rraIndY (nn : Byte) : Statement (.rraIndY nn) := of_encode rfl rfl
theorem rraZpX (nn : Byte) : Statement (.rraZpX nn) := of_encode rfl rfl
theorem rraAbsY (addr : Word) : Statement (.rraAbsY addr) := of_encode rfl rfl
theorem rraAbsX (addr : Word) : Statement (.rraAbsX addr) := of_encode rfl rfl
theorem unmapped (opcode : Byte) : Statement (.unmapped opcode) := fun h =>
  ⟨opcode, [], rfl, by simp [operandCount, handler_unmapped opcode h]⟩

end Sys2Proof.Laws.EncodedLength
end

