-- ==== Sys2Proof/Tests/Slice0.lean ====
section
/-! SUPPORT. The model's own tests, and the witnesses of the statements' hypotheses. Expected results are the
vectors of spec/95_test_vectors.md (their ids stand in the names), the opcode map of 30_encoding.md R71, or the
worked values of the rule a docstring names; none is the model's own answer. -/

namespace Sys2Proof.Tests

open Sys2Proof.Machine

set_option maxRecDepth 20000

/-! ### The check of an instruction as syntax -/

/-- `unmapped` with a mapped byte is ill formed, and the check refuses it (R72). -/
theorem test_wellFormed_refuses_a_mapped_byte : (Instr.unmapped 0xA9#8).wellFormed = false := by decide

theorem test_wellFormed_accepts_an_unmapped_byte : (Instr.unmapped 0x02#8).wellFormed = true := by decide

/-! ### Decoding: each row's word, written out from the opcode map (R71), with operand bytes 0x34 0x12 -/

theorem test_decode_lda :
    decode [0xA1#8, 0x34#8] = .ok (.ldaIndX 0x34#8) [] ∧
    decode [0xA5#8, 0x34#8] = .ok (.ldaZp 0x34#8) [] ∧
    decode [0xA9#8, 0x34#8] = .ok (.ldaImm 0x34#8) [] ∧
    decode [0xAD#8, 0x34#8, 0x12#8] = .ok (.ldaAbs 0x1234#16) [] ∧
    decode [0xB1#8, 0x34#8] = .ok (.ldaIndY 0x34#8) [] ∧
    decode [0xB5#8, 0x34#8] = .ok (.ldaZpX 0x34#8) [] ∧
    decode [0xB9#8, 0x34#8, 0x12#8] = .ok (.ldaAbsY 0x1234#16) [] ∧
    decode [0xBD#8, 0x34#8, 0x12#8] = .ok (.ldaAbsX 0x1234#16) [] := by
  decide

theorem test_decode_ldx :
    decode [0xA2#8, 0x34#8] = .ok (.ldxImm 0x34#8) [] ∧
    decode [0xA6#8, 0x34#8] = .ok (.ldxZp 0x34#8) [] ∧
    decode [0xAE#8, 0x34#8, 0x12#8] = .ok (.ldxAbs 0x1234#16) [] ∧
    decode [0xB6#8, 0x34#8] = .ok (.ldxZpY 0x34#8) [] ∧
    decode [0xBE#8, 0x34#8, 0x12#8] = .ok (.ldxAbsY 0x1234#16) [] := by
  decide

theorem test_decode_ldy :
    decode [0xA0#8, 0x34#8] = .ok (.ldyImm 0x34#8) [] ∧
    decode [0xA4#8, 0x34#8] = .ok (.ldyZp 0x34#8) [] ∧
    decode [0xAC#8, 0x34#8, 0x12#8] = .ok (.ldyAbs 0x1234#16) [] ∧
    decode [0xB4#8, 0x34#8] = .ok (.ldyZpX 0x34#8) [] ∧
    decode [0xBC#8, 0x34#8, 0x12#8] = .ok (.ldyAbsX 0x1234#16) [] := by
  decide

theorem test_decode_sta :
    decode [0x81#8, 0x34#8] = .ok (.staIndX 0x34#8) [] ∧
    decode [0x85#8, 0x34#8] = .ok (.staZp 0x34#8) [] ∧
    decode [0x8D#8, 0x34#8, 0x12#8] = .ok (.staAbs 0x1234#16) [] ∧
    decode [0x91#8, 0x34#8] = .ok (.staIndY 0x34#8) [] ∧
    decode [0x95#8, 0x34#8] = .ok (.staZpX 0x34#8) [] ∧
    decode [0x99#8, 0x34#8, 0x12#8] = .ok (.staAbsY 0x1234#16) [] ∧
    decode [0x9D#8, 0x34#8, 0x12#8] = .ok (.staAbsX 0x1234#16) [] := by
  decide

theorem test_decode_stx :
    decode [0x86#8, 0x34#8] = .ok (.stxZp 0x34#8) [] ∧
    decode [0x8E#8, 0x34#8, 0x12#8] = .ok (.stxAbs 0x1234#16) [] ∧
    decode [0x96#8, 0x34#8] = .ok (.stxZpY 0x34#8) [] := by
  decide

theorem test_decode_sty :
    decode [0x84#8, 0x34#8] = .ok (.styZp 0x34#8) [] ∧
    decode [0x8C#8, 0x34#8, 0x12#8] = .ok (.styAbs 0x1234#16) [] ∧
    decode [0x94#8, 0x34#8] = .ok (.styZpX 0x34#8) [] := by
  decide

theorem test_decode_adc :
    decode [0x61#8, 0x34#8] = .ok (.adcIndX 0x34#8) [] ∧
    decode [0x65#8, 0x34#8] = .ok (.adcZp 0x34#8) [] ∧
    decode [0x69#8, 0x34#8] = .ok (.adcImm 0x34#8) [] ∧
    decode [0x6D#8, 0x34#8, 0x12#8] = .ok (.adcAbs 0x1234#16) [] ∧
    decode [0x71#8, 0x34#8] = .ok (.adcIndY 0x34#8) [] ∧
    decode [0x75#8, 0x34#8] = .ok (.adcZpX 0x34#8) [] ∧
    decode [0x79#8, 0x34#8, 0x12#8] = .ok (.adcAbsY 0x1234#16) [] ∧
    decode [0x7D#8, 0x34#8, 0x12#8] = .ok (.adcAbsX 0x1234#16) [] := by
  decide

theorem test_decode_sbc :
    decode [0xE1#8, 0x34#8] = .ok (.sbcIndX 0x34#8) [] ∧
    decode [0xE5#8, 0x34#8] = .ok (.sbcZp 0x34#8) [] ∧
    decode [0xE9#8, 0x34#8] = .ok (.sbcImm 0x34#8) [] ∧
    decode [0xED#8, 0x34#8, 0x12#8] = .ok (.sbcAbs 0x1234#16) [] ∧
    decode [0xF1#8, 0x34#8] = .ok (.sbcIndY 0x34#8) [] ∧
    decode [0xF5#8, 0x34#8] = .ok (.sbcZpX 0x34#8) [] ∧
    decode [0xF9#8, 0x34#8, 0x12#8] = .ok (.sbcAbsY 0x1234#16) [] ∧
    decode [0xFD#8, 0x34#8, 0x12#8] = .ok (.sbcAbsX 0x1234#16) [] := by
  decide

theorem test_decode_and :
    decode [0x21#8, 0x34#8] = .ok (.andIndX 0x34#8) [] ∧
    decode [0x25#8, 0x34#8] = .ok (.andZp 0x34#8) [] ∧
    decode [0x29#8, 0x34#8] = .ok (.andImm 0x34#8) [] ∧
    decode [0x2D#8, 0x34#8, 0x12#8] = .ok (.andAbs 0x1234#16) [] ∧
    decode [0x31#8, 0x34#8] = .ok (.andIndY 0x34#8) [] ∧
    decode [0x35#8, 0x34#8] = .ok (.andZpX 0x34#8) [] ∧
    decode [0x39#8, 0x34#8, 0x12#8] = .ok (.andAbsY 0x1234#16) [] ∧
    decode [0x3D#8, 0x34#8, 0x12#8] = .ok (.andAbsX 0x1234#16) [] := by
  decide

theorem test_decode_ora :
    decode [0x01#8, 0x34#8] = .ok (.oraIndX 0x34#8) [] ∧
    decode [0x05#8, 0x34#8] = .ok (.oraZp 0x34#8) [] ∧
    decode [0x09#8, 0x34#8] = .ok (.oraImm 0x34#8) [] ∧
    decode [0x0D#8, 0x34#8, 0x12#8] = .ok (.oraAbs 0x1234#16) [] ∧
    decode [0x11#8, 0x34#8] = .ok (.oraIndY 0x34#8) [] ∧
    decode [0x15#8, 0x34#8] = .ok (.oraZpX 0x34#8) [] ∧
    decode [0x19#8, 0x34#8, 0x12#8] = .ok (.oraAbsY 0x1234#16) [] ∧
    decode [0x1D#8, 0x34#8, 0x12#8] = .ok (.oraAbsX 0x1234#16) [] := by
  decide

theorem test_decode_eor :
    decode [0x41#8, 0x34#8] = .ok (.eorIndX 0x34#8) [] ∧
    decode [0x45#8, 0x34#8] = .ok (.eorZp 0x34#8) [] ∧
    decode [0x49#8, 0x34#8] = .ok (.eorImm 0x34#8) [] ∧
    decode [0x4D#8, 0x34#8, 0x12#8] = .ok (.eorAbs 0x1234#16) [] ∧
    decode [0x51#8, 0x34#8] = .ok (.eorIndY 0x34#8) [] ∧
    decode [0x55#8, 0x34#8] = .ok (.eorZpX 0x34#8) [] ∧
    decode [0x59#8, 0x34#8, 0x12#8] = .ok (.eorAbsY 0x1234#16) [] ∧
    decode [0x5D#8, 0x34#8, 0x12#8] = .ok (.eorAbsX 0x1234#16) [] := by
  decide

theorem test_decode_bit :
    decode [0x24#8, 0x34#8] = .ok (.bitZp 0x34#8) [] ∧
    decode [0x2C#8, 0x34#8, 0x12#8] = .ok (.bitAbs 0x1234#16) [] := by
  decide

theorem test_decode_cmp :
    decode [0xC1#8, 0x34#8] = .ok (.cmpIndX 0x34#8) [] ∧
    decode [0xC5#8, 0x34#8] = .ok (.cmpZp 0x34#8) [] ∧
    decode [0xC9#8, 0x34#8] = .ok (.cmpImm 0x34#8) [] ∧
    decode [0xCD#8, 0x34#8, 0x12#8] = .ok (.cmpAbs 0x1234#16) [] ∧
    decode [0xD1#8, 0x34#8] = .ok (.cmpIndY 0x34#8) [] ∧
    decode [0xD5#8, 0x34#8] = .ok (.cmpZpX 0x34#8) [] ∧
    decode [0xD9#8, 0x34#8, 0x12#8] = .ok (.cmpAbsY 0x1234#16) [] ∧
    decode [0xDD#8, 0x34#8, 0x12#8] = .ok (.cmpAbsX 0x1234#16) [] := by
  decide

theorem test_decode_cpx :
    decode [0xE0#8, 0x34#8] = .ok (.cpxImm 0x34#8) [] ∧
    decode [0xE4#8, 0x34#8] = .ok (.cpxZp 0x34#8) [] ∧
    decode [0xEC#8, 0x34#8, 0x12#8] = .ok (.cpxAbs 0x1234#16) [] := by
  decide

theorem test_decode_cpy :
    decode [0xC0#8, 0x34#8] = .ok (.cpyImm 0x34#8) [] ∧
    decode [0xC4#8, 0x34#8] = .ok (.cpyZp 0x34#8) [] ∧
    decode [0xCC#8, 0x34#8, 0x12#8] = .ok (.cpyAbs 0x1234#16) [] := by
  decide

theorem test_decode_inc :
    decode [0xE6#8, 0x34#8] = .ok (.incZp 0x34#8) [] ∧
    decode [0xEE#8, 0x34#8, 0x12#8] = .ok (.incAbs 0x1234#16) [] ∧
    decode [0xF6#8, 0x34#8] = .ok (.incZpX 0x34#8) [] ∧
    decode [0xFE#8, 0x34#8, 0x12#8] = .ok (.incAbsX 0x1234#16) [] := by
  decide

theorem test_decode_dec :
    decode [0xC6#8, 0x34#8] = .ok (.decZp 0x34#8) [] ∧
    decode [0xCE#8, 0x34#8, 0x12#8] = .ok (.decAbs 0x1234#16) [] ∧
    decode [0xD6#8, 0x34#8] = .ok (.decZpX 0x34#8) [] ∧
    decode [0xDE#8, 0x34#8, 0x12#8] = .ok (.decAbsX 0x1234#16) [] := by
  decide

theorem test_decode_asl :
    decode [0x06#8, 0x34#8] = .ok (.aslZp 0x34#8) [] ∧
    decode [0x0A#8] = .ok .aslAcc [] ∧
    decode [0x0E#8, 0x34#8, 0x12#8] = .ok (.aslAbs 0x1234#16) [] ∧
    decode [0x16#8, 0x34#8] = .ok (.aslZpX 0x34#8) [] ∧
    decode [0x1E#8, 0x34#8, 0x12#8] = .ok (.aslAbsX 0x1234#16) [] := by
  decide

theorem test_decode_lsr :
    decode [0x46#8, 0x34#8] = .ok (.lsrZp 0x34#8) [] ∧
    decode [0x4A#8] = .ok .lsrAcc [] ∧
    decode [0x4E#8, 0x34#8, 0x12#8] = .ok (.lsrAbs 0x1234#16) [] ∧
    decode [0x56#8, 0x34#8] = .ok (.lsrZpX 0x34#8) [] ∧
    decode [0x5E#8, 0x34#8, 0x12#8] = .ok (.lsrAbsX 0x1234#16) [] := by
  decide

theorem test_decode_rol :
    decode [0x26#8, 0x34#8] = .ok (.rolZp 0x34#8) [] ∧
    decode [0x2A#8] = .ok .rolAcc [] ∧
    decode [0x2E#8, 0x34#8, 0x12#8] = .ok (.rolAbs 0x1234#16) [] ∧
    decode [0x36#8, 0x34#8] = .ok (.rolZpX 0x34#8) [] ∧
    decode [0x3E#8, 0x34#8, 0x12#8] = .ok (.rolAbsX 0x1234#16) [] := by
  decide

theorem test_decode_ror :
    decode [0x66#8, 0x34#8] = .ok (.rorZp 0x34#8) [] ∧
    decode [0x6A#8] = .ok .rorAcc [] ∧
    decode [0x6E#8, 0x34#8, 0x12#8] = .ok (.rorAbs 0x1234#16) [] ∧
    decode [0x76#8, 0x34#8] = .ok (.rorZpX 0x34#8) [] ∧
    decode [0x7E#8, 0x34#8, 0x12#8] = .ok (.rorAbsX 0x1234#16) [] := by
  decide

theorem test_decode_jmp :
    decode [0x4C#8, 0x34#8, 0x12#8] = .ok (.jmpAbs 0x1234#16) [] ∧
    decode [0x6C#8, 0x34#8, 0x12#8] = .ok (.jmpInd 0x1234#16) [] := by
  decide

theorem test_decode_nop_undocumented :
    decode [0x04#8, 0x34#8] = .ok (.nop04 0x34#8) [] ∧
    decode [0x0C#8, 0x34#8, 0x12#8] = .ok (.nop0C 0x1234#16) [] ∧
    decode [0x14#8, 0x34#8] = .ok (.nop14 0x34#8) [] ∧
    decode [0x1A#8] = .ok .nop1A [] ∧
    decode [0x1C#8, 0x34#8, 0x12#8] = .ok (.nop1C 0x1234#16) [] ∧
    decode [0x34#8, 0x34#8] = .ok (.nop34 0x34#8) [] ∧
    decode [0x3A#8] = .ok .nop3A [] ∧
    decode [0x3C#8, 0x34#8, 0x12#8] = .ok (.nop3C 0x1234#16) [] ∧
    decode [0x44#8, 0x34#8] = .ok (.nop44 0x34#8) [] ∧
    decode [0x54#8, 0x34#8] = .ok (.nop54 0x34#8) [] ∧
    decode [0x5A#8] = .ok .nop5A [] ∧
    decode [0x5C#8, 0x34#8, 0x12#8] = .ok (.nop5C 0x1234#16) [] ∧
    decode [0x64#8, 0x34#8] = .ok (.nop64 0x34#8) [] ∧
    decode [0x74#8, 0x34#8] = .ok (.nop74 0x34#8) [] ∧
    decode [0x7A#8] = .ok .nop7A [] ∧
    decode [0x7C#8, 0x34#8, 0x12#8] = .ok (.nop7C 0x1234#16) [] ∧
    decode [0x80#8, 0x34#8] = .ok (.nop80 0x34#8) [] ∧
    decode [0x82#8, 0x34#8] = .ok (.nop82 0x34#8) [] ∧
    decode [0x89#8, 0x34#8] = .ok (.nop89 0x34#8) [] ∧
    decode [0xC2#8, 0x34#8] = .ok (.nopC2 0x34#8) [] ∧
    decode [0xD4#8, 0x34#8] = .ok (.nopD4 0x34#8) [] ∧
    decode [0xDA#8] = .ok .nopDA [] ∧
    decode [0xDC#8, 0x34#8, 0x12#8] = .ok (.nopDC 0x1234#16) [] ∧
    decode [0xE2#8, 0x34#8] = .ok (.nopE2 0x34#8) [] ∧
    decode [0xF4#8, 0x34#8] = .ok (.nopF4 0x34#8) [] ∧
    decode [0xFA#8] = .ok .nopFA [] ∧
    decode [0xFC#8, 0x34#8, 0x12#8] = .ok (.nopFC 0x1234#16) [] := by
  decide

theorem test_decode_lax :
    decode [0xA3#8, 0x34#8] = .ok (.laxIndX 0x34#8) [] ∧
    decode [0xA7#8, 0x34#8] = .ok (.laxZp 0x34#8) [] ∧
    decode [0xAF#8, 0x34#8, 0x12#8] = .ok (.laxAbs 0x1234#16) [] ∧
    decode [0xB3#8, 0x34#8] = .ok (.laxIndY 0x34#8) [] ∧
    decode [0xB7#8, 0x34#8] = .ok (.laxZpY 0x34#8) [] ∧
    decode [0xBF#8, 0x34#8, 0x12#8] = .ok (.laxAbsY 0x1234#16) [] := by
  decide

theorem test_decode_sax :
    decode [0x83#8, 0x34#8] = .ok (.saxIndX 0x34#8) [] ∧
    decode [0x87#8, 0x34#8] = .ok (.saxZp 0x34#8) [] ∧
    decode [0x8F#8, 0x34#8, 0x12#8] = .ok (.saxAbs 0x1234#16) [] ∧
    decode [0x97#8, 0x34#8] = .ok (.saxZpY 0x34#8) [] := by
  decide

theorem test_decode_dcp :
    decode [0xC3#8, 0x34#8] = .ok (.dcpIndX 0x34#8) [] ∧
    decode [0xC7#8, 0x34#8] = .ok (.dcpZp 0x34#8) [] ∧
    decode [0xCF#8, 0x34#8, 0x12#8] = .ok (.dcpAbs 0x1234#16) [] ∧
    decode [0xD3#8, 0x34#8] = .ok (.dcpIndY 0x34#8) [] ∧
    decode [0xD7#8, 0x34#8] = .ok (.dcpZpX 0x34#8) [] ∧
    decode [0xDB#8, 0x34#8, 0x12#8] = .ok (.dcpAbsY 0x1234#16) [] ∧
    decode [0xDF#8, 0x34#8, 0x12#8] = .ok (.dcpAbsX 0x1234#16) [] := by
  decide

theorem test_decode_isb :
    decode [0xE3#8, 0x34#8] = .ok (.isbIndX 0x34#8) [] ∧
    decode [0xE7#8, 0x34#8] = .ok (.isbZp 0x34#8) [] ∧
    decode [0xEF#8, 0x34#8, 0x12#8] = .ok (.isbAbs 0x1234#16) [] ∧
    decode [0xF3#8, 0x34#8] = .ok (.isbIndY 0x34#8) [] ∧
    decode [0xF7#8, 0x34#8] = .ok (.isbZpX 0x34#8) [] ∧
    decode [0xFB#8, 0x34#8, 0x12#8] = .ok (.isbAbsY 0x1234#16) [] ∧
    decode [0xFF#8, 0x34#8, 0x12#8] = .ok (.isbAbsX 0x1234#16) [] := by
  decide

theorem test_decode_slo :
    decode [0x03#8, 0x34#8] = .ok (.sloIndX 0x34#8) [] ∧
    decode [0x07#8, 0x34#8] = .ok (.sloZp 0x34#8) [] ∧
    decode [0x0F#8, 0x34#8, 0x12#8] = .ok (.sloAbs 0x1234#16) [] ∧
    decode [0x13#8, 0x34#8] = .ok (.sloIndY 0x34#8) [] ∧
    decode [0x17#8, 0x34#8] = .ok (.sloZpX 0x34#8) [] ∧
    decode [0x1B#8, 0x34#8, 0x12#8] = .ok (.sloAbsY 0x1234#16) [] ∧
    decode [0x1F#8, 0x34#8, 0x12#8] = .ok (.sloAbsX 0x1234#16) [] := by
  decide

theorem test_decode_rla :
    decode [0x23#8, 0x34#8] = .ok (.rlaIndX 0x34#8) [] ∧
    decode [0x27#8, 0x34#8] = .ok (.rlaZp 0x34#8) [] ∧
    decode [0x2F#8, 0x34#8, 0x12#8] = .ok (.rlaAbs 0x1234#16) [] ∧
    decode [0x33#8, 0x34#8] = .ok (.rlaIndY 0x34#8) [] ∧
    decode [0x37#8, 0x34#8] = .ok (.rlaZpX 0x34#8) [] ∧
    decode [0x3B#8, 0x34#8, 0x12#8] = .ok (.rlaAbsY 0x1234#16) [] ∧
    decode [0x3F#8, 0x34#8, 0x12#8] = .ok (.rlaAbsX 0x1234#16) [] := by
  decide

theorem test_decode_sre :
    decode [0x43#8, 0x34#8] = .ok (.sreIndX 0x34#8) [] ∧
    decode [0x47#8, 0x34#8] = .ok (.sreZp 0x34#8) [] ∧
    decode [0x4F#8, 0x34#8, 0x12#8] = .ok (.sreAbs 0x1234#16) [] ∧
    decode [0x53#8, 0x34#8] = .ok (.sreIndY 0x34#8) [] ∧
    decode [0x57#8, 0x34#8] = .ok (.sreZpX 0x34#8) [] ∧
    decode [0x5B#8, 0x34#8, 0x12#8] = .ok (.sreAbsY 0x1234#16) [] ∧
    decode [0x5F#8, 0x34#8, 0x12#8] = .ok (.sreAbsX 0x1234#16) [] := by
  decide

theorem test_decode_rra :
    decode [0x63#8, 0x34#8] = .ok (.rraIndX 0x34#8) [] ∧
    decode [0x67#8, 0x34#8] = .ok (.rraZp 0x34#8) [] ∧
    decode [0x6F#8, 0x34#8, 0x12#8] = .ok (.rraAbs 0x1234#16) [] ∧
    decode [0x73#8, 0x34#8] = .ok (.rraIndY 0x34#8) [] ∧
    decode [0x77#8, 0x34#8] = .ok (.rraZpX 0x34#8) [] ∧
    decode [0x7B#8, 0x34#8, 0x12#8] = .ok (.rraAbsY 0x1234#16) [] ∧
    decode [0x7F#8, 0x34#8, 0x12#8] = .ok (.rraAbsX 0x1234#16) [] := by
  decide

theorem test_decode_transfers :
    decode [0xAA#8] = .ok .tax [] ∧
    decode [0xA8#8] = .ok .tay [] ∧
    decode [0xBA#8] = .ok .tsx [] ∧
    decode [0x8A#8] = .ok .txa [] ∧
    decode [0x9A#8] = .ok .txs [] ∧
    decode [0x98#8] = .ok .tya [] := by
  decide

theorem test_decode_register_steps :
    decode [0xE8#8] = .ok .inx [] ∧
    decode [0xC8#8] = .ok .iny [] ∧
    decode [0xCA#8] = .ok .dex [] ∧
    decode [0x88#8] = .ok .dey [] := by
  decide

theorem test_decode_branches :
    decode [0x90#8, 0x34#8] = .ok (.bcc 0x34#8) [] ∧
    decode [0xB0#8, 0x34#8] = .ok (.bcs 0x34#8) [] ∧
    decode [0xF0#8, 0x34#8] = .ok (.beq 0x34#8) [] ∧
    decode [0x30#8, 0x34#8] = .ok (.bmi 0x34#8) [] ∧
    decode [0xD0#8, 0x34#8] = .ok (.bne 0x34#8) [] ∧
    decode [0x10#8, 0x34#8] = .ok (.bpl 0x34#8) [] ∧
    decode [0x50#8, 0x34#8] = .ok (.bvc 0x34#8) [] ∧
    decode [0x70#8, 0x34#8] = .ok (.bvs 0x34#8) [] := by
  decide

theorem test_decode_calls_and_traps :
    decode [0x20#8, 0x34#8, 0x12#8] = .ok (.jsr 0x1234#16) [] ∧
    decode [0x60#8] = .ok .rts [] ∧
    decode [0x00#8] = .ok .brk [] ∧
    decode [0x40#8] = .ok .rti [] := by
  decide

theorem test_decode_stack :
    decode [0x48#8] = .ok .pha [] ∧
    decode [0x08#8] = .ok .php [] ∧
    decode [0x68#8] = .ok .pla [] ∧
    decode [0x28#8] = .ok .plp [] := by
  decide

theorem test_decode_flags :
    decode [0x18#8] = .ok .clc [] ∧
    decode [0xD8#8] = .ok .cld [] ∧
    decode [0x58#8] = .ok .cli [] ∧
    decode [0xB8#8] = .ok .clv [] ∧
    decode [0x38#8] = .ok .sec [] ∧
    decode [0xF8#8] = .ok .sed [] ∧
    decode [0x78#8] = .ok .sei [] ∧
    decode [0xEA#8] = .ok .nop [] := by
  decide

theorem test_decode_sbc_undocumented :
    decode [0xEB#8, 0x34#8] = .ok (.sbcEB 0x34#8) [] := by
  decide

theorem test_decode_unmapped :
    decode [0x02#8] = .ok (.unmapped 0x02#8) [] ∧ decode [0xF2#8] = .ok (.unmapped 0xF2#8) [] := by
  decide

/-- Too few bytes are rejected by name (R67, R68). -/
theorem test_decode_rejects_truncated :
    decode [] = .rejected .noOpcode ∧ decode [0xAD#8, 0x34#8] = .rejected (.missingOperand 0xAD#8) := by
  decide

/-! ### One step, from the vectors of spec/95_test_vectors.md -/

/-- A state of the vectors: these registers, and these bytes in Storage. -/
def start (a x y : Byte) (sp : Word) (p : Byte) (pc : Word) (bytes : List Host.Cell) : State :=
  { State.reset with
    a := a
    x := x
    y := y
    sp := sp
    p := p
    pc := pc
    storage := bytes.foldl (fun m c => m.write c.1 c.2) [] }

/-- The step of `s` ends in this register file and count, with exactly these bytes written and sink calls made. -/
def ends (s : State) (a x y : Byte) (sp : Word) (p : Byte) (pc : Word) (cycles : Nat) (written : List Host.Cell)
    (sink : List (Word × Byte)) : Bool :=
  match step s with
  | .next t =>
    t.a == a && t.x == x && t.y == y && t.sp == sp && t.p == p && t.pc == pc && t.cycles == cycles &&
      t.storage == written.foldl (fun m c => m.write c.1 c.2) s.storage &&
      t.portCalls == sink.map fun c => .registerWrite c.1 c.2
  | _ => false

theorem test_ldaAbs_MEM1 :
    ends (start 0x00#8 0x00#8 0x00#8 0x01FD#16 0x24#8 0x0400#16
        [(0x0010, 0x5A#8), (0x0400, 0xAD#8), (0x0401, 0x10#8), (0x0402, 0x08#8)])
      0x5A#8 0x00#8 0x00#8 0x01FD#16 0x24#8 0x0403#16 4 [] [] = true := by
  decide

theorem test_staAbs_MEM2 :
    ends (start 0x77#8 0x00#8 0x00#8 0x01FD#16 0x24#8 0x0400#16
        [(0x0400, 0x8D#8), (0x0401, 0xFF#8), (0x0402, 0x1F#8)])
      0x77#8 0x00#8 0x00#8 0x01FD#16 0x24#8 0x0403#16 4 [(0x07FF, 0x77#8)] [] = true := by
  decide

theorem test_staAbs_MEM3 :
    ends (start 0x11#8 0x00#8 0x00#8 0x01FD#16 0x24#8 0x0400#16
        [(0x0400, 0x8D#8), (0x0401, 0xFE#8), (0x0402, 0x3F#8)])
      0x11#8 0x00#8 0x00#8 0x01FD#16 0x24#8 0x0403#16 4 [(0x2006, 0x11#8)] [(0x2006#16, 0x11#8)] = true := by
  decide

theorem test_ldaZpX_AM1 :
    ends (start 0x00#8 0x20#8 0x00#8 0x01FD#16 0x24#8 0x0400#16
        [(0x0010, 0xAB#8), (0x0400, 0xB5#8), (0x0401, 0xF0#8)])
      0xAB#8 0x20#8 0x00#8 0x01FD#16 0xA4#8 0x0402#16 4 [] [] = true := by
  decide

theorem test_ldxZpY_AM2 :
    ends (start 0x00#8 0x00#8 0x02#8 0x01FD#16 0x24#8 0x0400#16
        [(0x0001, 0x07#8), (0x0400, 0xB6#8), (0x0401, 0xFF#8)])
      0x00#8 0x07#8 0x02#8 0x01FD#16 0x24#8 0x0402#16 4 [] [] = true := by
  decide

theorem test_ldaAbsX_AM3 :
    ends (start 0x00#8 0x20#8 0x00#8 0x01FD#16 0x24#8 0x0400#16
        [(0x0310, 0x01#8), (0x0400, 0xBD#8), (0x0401, 0xF0#8), (0x0402, 0x12#8)])
      0x01#8 0x20#8 0x00#8 0x01FD#16 0x24#8 0x0403#16 5 [] [] = true := by
  decide

theorem test_ldaAbsX_AM4 :
    ends (start 0x00#8 0x20#8 0x00#8 0x01FD#16 0x24#8 0x0400#16
        [(0x0220, 0x01#8), (0x0400, 0xBD#8), (0x0401, 0x00#8), (0x0402, 0x12#8)])
      0x01#8 0x20#8 0x00#8 0x01FD#16 0x24#8 0x0403#16 4 [] [] = true := by
  decide

theorem test_ldaAbsY_AM5 :
    ends (start 0x00#8 0x00#8 0x01#8 0x01FD#16 0x24#8 0x0400#16
        [(0x0000, 0x42#8), (0x0400, 0xB9#8), (0x0401, 0xFF#8), (0x0402, 0xFF#8)])
      0x42#8 0x00#8 0x01#8 0x01FD#16 0x24#8 0x0403#16 5 [] [] = true := by
  decide

theorem test_ldaIndX_AM6 :
    ends (start 0x00#8 0x00#8 0x00#8 0x01FD#16 0x24#8 0x0400#16
        [(0x00FF, 0x00#8), (0x0000, 0x03#8), (0x0300, 0x66#8), (0x0400, 0xA1#8), (0x0401, 0xFF#8)])
      0x66#8 0x00#8 0x00#8 0x01FD#16 0x24#8 0x0402#16 6 [] [] = true := by
  decide

theorem test_ldaIndX_AM7 :
    ends (start 0x00#8 0xE0#8 0x00#8 0x01FD#16 0x24#8 0x0400#16
        [(0x0000, 0x10#8), (0x0001, 0x03#8), (0x0310, 0x55#8), (0x0400, 0xA1#8), (0x0401, 0x20#8)])
      0x55#8 0xE0#8 0x00#8 0x01FD#16 0x24#8 0x0402#16 6 [] [] = true := by
  decide

theorem test_ldaIndY_AM8 :
    ends (start 0x00#8 0x00#8 0x20#8 0x01FD#16 0x24#8 0x0400#16
        [(0x0010, 0xF0#8), (0x0011, 0x02#8), (0x0310, 0x99#8), (0x0400, 0xB1#8), (0x0401, 0x10#8)])
      0x99#8 0x00#8 0x20#8 0x01FD#16 0xA4#8 0x0402#16 6 [] [] = true := by
  decide

theorem test_ldaIndY_AM9 :
    ends (start 0x00#8 0x00#8 0x01#8 0x01FD#16 0x24#8 0x0400#16
        [(0x0010, 0x80#8), (0x0011, 0x02#8), (0x0281, 0x01#8), (0x0400, 0xB1#8), (0x0401, 0x10#8)])
      0x01#8 0x00#8 0x01#8 0x01FD#16 0x24#8 0x0402#16 5 [] [] = true := by
  decide

theorem test_staAbsX_AM11 :
    ends (start 0x01#8 0x20#8 0x00#8 0x01FD#16 0x24#8 0x0400#16
        [(0x0400, 0x9D#8), (0x0401, 0xF0#8), (0x0402, 0x02#8)])
      0x01#8 0x20#8 0x00#8 0x01FD#16 0x24#8 0x0403#16 5 [(0x0310, 0x01#8)] [] = true := by
  decide

theorem test_staIndY_AM12 :
    ends (start 0x01#8 0x00#8 0x20#8 0x01FD#16 0x24#8 0x0400#16
        [(0x0010, 0xF0#8), (0x0011, 0x02#8), (0x0400, 0x91#8), (0x0401, 0x10#8)])
      0x01#8 0x00#8 0x20#8 0x01FD#16 0x24#8 0x0402#16 6 [(0x0310, 0x01#8)] [] = true := by
  decide

theorem test_bne_AM13 :
    ends (start 0x00#8 0x00#8 0x00#8 0x01FD#16 0x24#8 0x0400#16
        [(0x0400, 0xD0#8), (0x0401, 0x05#8)])
      0x00#8 0x00#8 0x00#8 0x01FD#16 0x24#8 0x0407#16 3 [] [] = true := by
  decide

theorem test_ldaImm_LS1 :
    ends (start 0x12#8 0x00#8 0x00#8 0x01FD#16 0x24#8 0x0400#16
        [(0x0400, 0xA9#8), (0x0401, 0x00#8)])
      0x00#8 0x00#8 0x00#8 0x01FD#16 0x26#8 0x0402#16 2 [] [] = true := by
  decide

theorem test_ldaImm_LS2 :
    ends (start 0x00#8 0x00#8 0x00#8 0x01FD#16 0x24#8 0x0400#16
        [(0x0400, 0xA9#8), (0x0401, 0x80#8)])
      0x80#8 0x00#8 0x00#8 0x01FD#16 0xA4#8 0x0402#16 2 [] [] = true := by
  decide

theorem test_ldxImm_LS3 :
    ends (start 0x00#8 0x00#8 0x00#8 0x01FD#16 0x24#8 0x0400#16
        [(0x0400, 0xA2#8), (0x0401, 0xFF#8)])
      0x00#8 0xFF#8 0x00#8 0x01FD#16 0xA4#8 0x0402#16 2 [] [] = true := by
  decide

theorem test_ldyImm_LS4 :
    ends (start 0x00#8 0x00#8 0x00#8 0x01FD#16 0xA6#8 0x0400#16
        [(0x0400, 0xA0#8), (0x0401, 0x01#8)])
      0x00#8 0x00#8 0x01#8 0x01FD#16 0x24#8 0x0402#16 2 [] [] = true := by
  decide

theorem test_staZp_LS5 :
    ends (start 0x00#8 0x00#8 0x00#8 0x01FD#16 0xA4#8 0x0400#16
        [(0x0400, 0x85#8), (0x0401, 0x10#8)])
      0x00#8 0x00#8 0x00#8 0x01FD#16 0xA4#8 0x0402#16 3 [(0x0010, 0x00#8)] [] = true := by
  decide

theorem test_stxZpY_LS6 :
    ends (start 0x00#8 0x5A#8 0x02#8 0x01FD#16 0x24#8 0x0400#16
        [(0x0400, 0x96#8), (0x0401, 0xFF#8)])
      0x00#8 0x5A#8 0x02#8 0x01FD#16 0x24#8 0x0402#16 4 [(0x0001, 0x5A#8)] [] = true := by
  decide

theorem test_styAbs_LS7 :
    ends (start 0x00#8 0x00#8 0xC3#8 0x01FD#16 0x24#8 0x0400#16
        [(0x0400, 0x8C#8), (0x0401, 0x00#8), (0x0402, 0x03#8)])
      0x00#8 0x00#8 0xC3#8 0x01FD#16 0x24#8 0x0403#16 4 [(0x0300, 0xC3#8)] [] = true := by
  decide

theorem test_tax_LS8 :
    ends (start 0x00#8 0x33#8 0x00#8 0x01FD#16 0x24#8 0x0400#16
        [(0x0400, 0xAA#8)])
      0x00#8 0x00#8 0x00#8 0x01FD#16 0x26#8 0x0401#16 2 [] [] = true := by
  decide

theorem test_tay_LS9 :
    ends (start 0x90#8 0x00#8 0x00#8 0x01FD#16 0x24#8 0x0400#16
        [(0x0400, 0xA8#8)])
      0x90#8 0x00#8 0x90#8 0x01FD#16 0xA4#8 0x0401#16 2 [] [] = true := by
  decide

theorem test_tsx_LS10 :
    ends (start 0x00#8 0x00#8 0x00#8 0x01FD#16 0x24#8 0x0400#16
        [(0x0400, 0xBA#8)])
      0x00#8 0xFD#8 0x00#8 0x01FD#16 0xA4#8 0x0401#16 2 [] [] = true := by
  decide

theorem test_txa_LS11 :
    ends (start 0x00#8 0x7F#8 0x00#8 0x01FD#16 0x24#8 0x0400#16
        [(0x0400, 0x8A#8)])
      0x7F#8 0x7F#8 0x00#8 0x01FD#16 0x24#8 0x0401#16 2 [] [] = true := by
  decide

theorem test_txs_LS12 :
    ends (start 0x00#8 0x00#8 0x00#8 0x01FD#16 0x24#8 0x0400#16
        [(0x0400, 0x9A#8)])
      0x00#8 0x00#8 0x00#8 0x0100#16 0x24#8 0x0401#16 2 [] [] = true := by
  decide

theorem test_txs_LS13 :
    ends (start 0x00#8 0x80#8 0x00#8 0x01FD#16 0xA6#8 0x0400#16
        [(0x0400, 0x9A#8)])
      0x00#8 0x80#8 0x00#8 0x0180#16 0xA6#8 0x0401#16 2 [] [] = true := by
  decide

theorem test_tya_LS14 :
    ends (start 0x44#8 0x00#8 0x00#8 0x01FD#16 0x24#8 0x0400#16
        [(0x0400, 0x98#8)])
      0x00#8 0x00#8 0x00#8 0x01FD#16 0x26#8 0x0401#16 2 [] [] = true := by
  decide

theorem test_adcImm_ALU1 :
    ends (start 0x50#8 0x00#8 0x00#8 0x01FD#16 0x24#8 0x0400#16
        [(0x0400, 0x69#8), (0x0401, 0x50#8)])
      0xA0#8 0x00#8 0x00#8 0x01FD#16 0xE4#8 0x0402#16 2 [] [] = true := by
  decide

theorem test_adcImm_ALU2 :
    ends (start 0xFF#8 0x00#8 0x00#8 0x01FD#16 0x24#8 0x0400#16
        [(0x0400, 0x69#8), (0x0401, 0x01#8)])
      0x00#8 0x00#8 0x00#8 0x01FD#16 0x27#8 0x0402#16 2 [] [] = true := by
  decide

theorem test_sbcImm_ALU6 :
    ends (start 0x00#8 0x00#8 0x00#8 0x01FD#16 0x25#8 0x0400#16
        [(0x0400, 0xE9#8), (0x0401, 0x01#8)])
      0xFF#8 0x00#8 0x00#8 0x01FD#16 0xA4#8 0x0402#16 2 [] [] = true := by
  decide

theorem test_sbcImm_ALU7 :
    ends (start 0x50#8 0x00#8 0x00#8 0x01FD#16 0x25#8 0x0400#16
        [(0x0400, 0xE9#8), (0x0401, 0xB0#8)])
      0xA0#8 0x00#8 0x00#8 0x01FD#16 0xE4#8 0x0402#16 2 [] [] = true := by
  decide

theorem test_andImm_ALU10 :
    ends (start 0xF0#8 0x00#8 0x00#8 0x01FD#16 0x24#8 0x0400#16
        [(0x0400, 0x29#8), (0x0401, 0x0F#8)])
      0x00#8 0x00#8 0x00#8 0x01FD#16 0x26#8 0x0402#16 2 [] [] = true := by
  decide

theorem test_oraImm_ALU11 :
    ends (start 0x01#8 0x00#8 0x00#8 0x01FD#16 0x24#8 0x0400#16
        [(0x0400, 0x09#8), (0x0401, 0x80#8)])
      0x81#8 0x00#8 0x00#8 0x01FD#16 0xA4#8 0x0402#16 2 [] [] = true := by
  decide

theorem test_eorImm_ALU12 :
    ends (start 0xFF#8 0x00#8 0x00#8 0x01FD#16 0x24#8 0x0400#16
        [(0x0400, 0x49#8), (0x0401, 0xFF#8)])
      0x00#8 0x00#8 0x00#8 0x01FD#16 0x26#8 0x0402#16 2 [] [] = true := by
  decide

theorem test_bitZp_ALU13 :
    ends (start 0x01#8 0x00#8 0x00#8 0x01FD#16 0x24#8 0x0400#16
        [(0x0010, 0x80#8), (0x0400, 0x24#8), (0x0401, 0x10#8)])
      0x01#8 0x00#8 0x00#8 0x01FD#16 0xA6#8 0x0402#16 3 [] [] = true := by
  decide

theorem test_bitAbs_ALU14 :
    ends (start 0xFF#8 0x00#8 0x00#8 0x01FD#16 0x24#8 0x0400#16
        [(0x0300, 0x41#8), (0x0400, 0x2C#8), (0x0401, 0x00#8), (0x0402, 0x03#8)])
      0xFF#8 0x00#8 0x00#8 0x01FD#16 0x64#8 0x0403#16 4 [] [] = true := by
  decide

theorem test_cmpImm_ALU15 :
    ends (start 0x10#8 0x00#8 0x00#8 0x01FD#16 0x24#8 0x0400#16
        [(0x0400, 0xC9#8), (0x0401, 0x10#8)])
      0x10#8 0x00#8 0x00#8 0x01FD#16 0x27#8 0x0402#16 2 [] [] = true := by
  decide

theorem test_cmpImm_ALU16 :
    ends (start 0x10#8 0x00#8 0x00#8 0x01FD#16 0x24#8 0x0400#16
        [(0x0400, 0xC9#8), (0x0401, 0x11#8)])
      0x10#8 0x00#8 0x00#8 0x01FD#16 0xA4#8 0x0402#16 2 [] [] = true := by
  decide

theorem test_cpxImm_ALU18 :
    ends (start 0x00#8 0x7F#8 0x00#8 0x01FD#16 0x24#8 0x0400#16
        [(0x0400, 0xE0#8), (0x0401, 0x80#8)])
      0x00#8 0x7F#8 0x00#8 0x01FD#16 0xA4#8 0x0402#16 2 [] [] = true := by
  decide

theorem test_cpyImm_ALU19 :
    ends (start 0x00#8 0x00#8 0x00#8 0x01FD#16 0x24#8 0x0400#16
        [(0x0400, 0xC0#8), (0x0401, 0x00#8)])
      0x00#8 0x00#8 0x00#8 0x01FD#16 0x27#8 0x0402#16 2 [] [] = true := by
  decide

theorem test_incZp_ALU20 :
    ends (start 0x00#8 0x00#8 0x00#8 0x01FD#16 0x24#8 0x0400#16
        [(0x0010, 0xFF#8), (0x0400, 0xE6#8), (0x0401, 0x10#8)])
      0x00#8 0x00#8 0x00#8 0x01FD#16 0x26#8 0x0402#16 5 [(0x0010, 0x00#8)] [] = true := by
  decide

theorem test_incAbsX_ALU21 :
    ends (start 0x00#8 0x01#8 0x00#8 0x01FD#16 0x24#8 0x0400#16
        [(0x0300, 0x7F#8), (0x0400, 0xFE#8), (0x0401, 0xFF#8), (0x0402, 0x02#8)])
      0x00#8 0x01#8 0x00#8 0x01FD#16 0xA4#8 0x0403#16 7 [(0x0300, 0x80#8)] [] = true := by
  decide

theorem test_decZp_ALU22 :
    ends (start 0x00#8 0x00#8 0x00#8 0x01FD#16 0x24#8 0x0400#16
        [(0x0010, 0x00#8), (0x0400, 0xC6#8), (0x0401, 0x10#8)])
      0x00#8 0x00#8 0x00#8 0x01FD#16 0xA4#8 0x0402#16 5 [(0x0010, 0xFF#8)] [] = true := by
  decide

theorem test_inx_ALU23 :
    ends (start 0x00#8 0xFF#8 0x00#8 0x01FD#16 0x24#8 0x0400#16
        [(0x0400, 0xE8#8)])
      0x00#8 0x00#8 0x00#8 0x01FD#16 0x26#8 0x0401#16 2 [] [] = true := by
  decide

theorem test_iny_ALU24 :
    ends (start 0x00#8 0x00#8 0x7F#8 0x01FD#16 0x24#8 0x0400#16
        [(0x0400, 0xC8#8)])
      0x00#8 0x00#8 0x80#8 0x01FD#16 0xA4#8 0x0401#16 2 [] [] = true := by
  decide

theorem test_dex_ALU25 :
    ends (start 0x00#8 0x00#8 0x00#8 0x01FD#16 0x24#8 0x0400#16
        [(0x0400, 0xCA#8)])
      0x00#8 0xFF#8 0x00#8 0x01FD#16 0xA4#8 0x0401#16 2 [] [] = true := by
  decide

theorem test_dey_ALU26 :
    ends (start 0x00#8 0x00#8 0x01#8 0x01FD#16 0x24#8 0x0400#16
        [(0x0400, 0x88#8)])
      0x00#8 0x00#8 0x00#8 0x01FD#16 0x26#8 0x0401#16 2 [] [] = true := by
  decide

theorem test_aslAcc_ALU27 :
    ends (start 0x80#8 0x00#8 0x00#8 0x01FD#16 0x24#8 0x0400#16
        [(0x0400, 0x0A#8)])
      0x00#8 0x00#8 0x00#8 0x01FD#16 0x27#8 0x0401#16 2 [] [] = true := by
  decide

theorem test_aslZp_ALU28 :
    ends (start 0x00#8 0x00#8 0x00#8 0x01FD#16 0x24#8 0x0400#16
        [(0x0010, 0x41#8), (0x0400, 0x06#8), (0x0401, 0x10#8)])
      0x00#8 0x00#8 0x00#8 0x01FD#16 0xA4#8 0x0402#16 5 [(0x0010, 0x82#8)] [] = true := by
  decide

theorem test_lsrAcc_ALU29 :
    ends (start 0x01#8 0x00#8 0x00#8 0x01FD#16 0x24#8 0x0400#16
        [(0x0400, 0x4A#8)])
      0x00#8 0x00#8 0x00#8 0x01FD#16 0x27#8 0x0401#16 2 [] [] = true := by
  decide

theorem test_rolAcc_ALU30 :
    ends (start 0x80#8 0x00#8 0x00#8 0x01FD#16 0x25#8 0x0400#16
        [(0x0400, 0x2A#8)])
      0x01#8 0x00#8 0x00#8 0x01FD#16 0x25#8 0x0401#16 2 [] [] = true := by
  decide

theorem test_rolZp_ALU31 :
    ends (start 0x00#8 0x00#8 0x00#8 0x01FD#16 0x24#8 0x0400#16
        [(0x0010, 0x40#8), (0x0400, 0x26#8), (0x0401, 0x10#8)])
      0x00#8 0x00#8 0x00#8 0x01FD#16 0xA4#8 0x0402#16 5 [(0x0010, 0x80#8)] [] = true := by
  decide

theorem test_rorAcc_ALU32 :
    ends (start 0x01#8 0x00#8 0x00#8 0x01FD#16 0x25#8 0x0400#16
        [(0x0400, 0x6A#8)])
      0x80#8 0x00#8 0x00#8 0x01FD#16 0xA5#8 0x0401#16 2 [] [] = true := by
  decide

theorem test_rorAbs_ALU33 :
    ends (start 0x00#8 0x00#8 0x00#8 0x01FD#16 0x24#8 0x0400#16
        [(0x0300, 0x02#8), (0x0400, 0x6E#8), (0x0401, 0x00#8), (0x0402, 0x03#8)])
      0x00#8 0x00#8 0x00#8 0x01FD#16 0x24#8 0x0403#16 6 [(0x0300, 0x01#8)] [] = true := by
  decide

theorem test_bne_CT1 :
    ends (start 0x00#8 0x00#8 0x00#8 0x01FD#16 0x26#8 0x0400#16
        [(0x0400, 0xD0#8), (0x0401, 0x10#8)])
      0x00#8 0x00#8 0x00#8 0x01FD#16 0x26#8 0x0402#16 2 [] [] = true := by
  decide

theorem test_bne_CT2 :
    ends (start 0x00#8 0x00#8 0x00#8 0x01FD#16 0x24#8 0x0400#16
        [(0x0400, 0xD0#8), (0x0401, 0x10#8)])
      0x00#8 0x00#8 0x00#8 0x01FD#16 0x24#8 0x0412#16 3 [] [] = true := by
  decide

theorem test_bcc_CT5 :
    ends (start 0x00#8 0x00#8 0x00#8 0x01FD#16 0x24#8 0x0400#16
        [(0x0400, 0x90#8), (0x0401, 0x7F#8)])
      0x00#8 0x00#8 0x00#8 0x01FD#16 0x24#8 0x0481#16 3 [] [] = true := by
  decide

theorem test_bcs_CT6 :
    ends (start 0x00#8 0x00#8 0x00#8 0x01FD#16 0x25#8 0x0400#16
        [(0x0400, 0xB0#8), (0x0401, 0x80#8)])
      0x00#8 0x00#8 0x00#8 0x01FD#16 0x25#8 0x0382#16 4 [] [] = true := by
  decide

theorem test_beq_CT7 :
    ends (start 0x00#8 0x00#8 0x00#8 0x01FD#16 0x26#8 0x0400#16
        [(0x0400, 0xF0#8), (0x0401, 0x02#8)])
      0x00#8 0x00#8 0x00#8 0x01FD#16 0x26#8 0x0404#16 3 [] [] = true := by
  decide

theorem test_bmi_CT8 :
    ends (start 0x00#8 0x00#8 0x00#8 0x01FD#16 0x24#8 0x0400#16
        [(0x0400, 0x30#8), (0x0401, 0x02#8)])
      0x00#8 0x00#8 0x00#8 0x01FD#16 0x24#8 0x0402#16 2 [] [] = true := by
  decide

theorem test_bpl_CT9 :
    ends (start 0x00#8 0x00#8 0x00#8 0x01FD#16 0xA4#8 0x0400#16
        [(0x0400, 0x10#8), (0x0401, 0x02#8)])
      0x00#8 0x00#8 0x00#8 0x01FD#16 0xA4#8 0x0402#16 2 [] [] = true := by
  decide

theorem test_bvc_CT10 :
    ends (start 0x00#8 0x00#8 0x00#8 0x01FD#16 0x24#8 0x0400#16
        [(0x0400, 0x50#8), (0x0401, 0x02#8)])
      0x00#8 0x00#8 0x00#8 0x01FD#16 0x24#8 0x0404#16 3 [] [] = true := by
  decide

theorem test_bvs_CT11 :
    ends (start 0x00#8 0x00#8 0x00#8 0x01FD#16 0x64#8 0x0400#16
        [(0x0400, 0x70#8), (0x0401, 0x02#8)])
      0x00#8 0x00#8 0x00#8 0x01FD#16 0x64#8 0x0404#16 3 [] [] = true := by
  decide

theorem test_jmpAbs_CT13 :
    ends (start 0x00#8 0x00#8 0x00#8 0x01FD#16 0x24#8 0x0400#16
        [(0x0400, 0x4C#8), (0x0401, 0x00#8), (0x0402, 0xC0#8)])
      0x00#8 0x00#8 0x00#8 0x01FD#16 0x24#8 0xC000#16 3 [] [] = true := by
  decide

theorem test_jmpInd_CT14 :
    ends (start 0x00#8 0x00#8 0x00#8 0x01FD#16 0x24#8 0x0400#16
        [(0x0300, 0x34#8), (0x0301, 0x12#8), (0x0400, 0x6C#8), (0x0401, 0x00#8), (0x0402, 0x03#8)])
      0x00#8 0x00#8 0x00#8 0x01FD#16 0x24#8 0x1234#16 5 [] [] = true := by
  decide

theorem test_jsr_CT16 :
    ends (start 0x00#8 0x00#8 0x00#8 0x01FD#16 0x24#8 0x0400#16
        [(0x0400, 0x20#8), (0x0401, 0x00#8), (0x0402, 0x80#8)])
      0x00#8 0x00#8 0x00#8 0x01FB#16 0x24#8 0x8000#16 6 [(0x01FD, 0x04#8), (0x01FC, 0x02#8)] [] = true := by
  decide

theorem test_rts_CT17 :
    ends (start 0x00#8 0x00#8 0x00#8 0x01FB#16 0x24#8 0x0400#16
        [(0x01FC, 0x02#8), (0x01FD, 0x04#8), (0x0400, 0x60#8)])
      0x00#8 0x00#8 0x00#8 0x01FD#16 0x24#8 0x0403#16 6 [] [] = true := by
  decide

theorem test_rts_CT18 :
    ends (start 0x00#8 0x00#8 0x00#8 0x01FF#16 0x24#8 0x0400#16
        [(0x0100, 0xFF#8), (0x0101, 0xFF#8), (0x0400, 0x60#8)])
      0x00#8 0x00#8 0x00#8 0x0101#16 0x24#8 0x0000#16 6 [] [] = true := by
  decide

theorem test_brk_CT19 :
    ends (start 0x00#8 0x00#8 0x00#8 0x01FD#16 0xE3#8 0x0400#16
        [(0xFFFE, 0x00#8), (0xFFFF, 0x90#8), (0x0400, 0x00#8)])
      0x00#8 0x00#8 0x00#8 0x01FA#16 0xE7#8 0x9000#16 7 [(0x01FD, 0x04#8), (0x01FC, 0x02#8), (0x01FB, 0xF3#8)] [] = true := by
  decide

theorem test_rti_CT20 :
    ends (start 0x00#8 0x00#8 0x00#8 0x01FA#16 0x24#8 0x0400#16
        [(0x01FB, 0xFF#8), (0x01FC, 0x02#8), (0x01FD, 0x04#8), (0x0400, 0x40#8)])
      0x00#8 0x00#8 0x00#8 0x01FD#16 0xEF#8 0x0402#16 6 [] [] = true := by
  decide

theorem test_pha_CT21 :
    ends (start 0x5A#8 0x00#8 0x00#8 0x0100#16 0x24#8 0x0400#16
        [(0x0400, 0x48#8)])
      0x5A#8 0x00#8 0x00#8 0x01FF#16 0x24#8 0x0401#16 3 [(0x0100, 0x5A#8)] [] = true := by
  decide

theorem test_php_CT22 :
    ends (start 0x00#8 0x00#8 0x00#8 0x01FD#16 0x24#8 0x0400#16
        [(0x0400, 0x08#8)])
      0x00#8 0x00#8 0x00#8 0x01FC#16 0x24#8 0x0401#16 3 [(0x01FD, 0x34#8)] [] = true := by
  decide

theorem test_pla_CT23 :
    ends (start 0x11#8 0x00#8 0x00#8 0x01FC#16 0x24#8 0x0400#16
        [(0x01FD, 0x00#8), (0x0400, 0x68#8)])
      0x00#8 0x00#8 0x00#8 0x01FD#16 0x26#8 0x0401#16 4 [] [] = true := by
  decide

theorem test_plp_CT24 :
    ends (start 0x00#8 0x00#8 0x00#8 0x01FC#16 0x24#8 0x0400#16
        [(0x01FD, 0xFF#8), (0x0400, 0x28#8)])
      0x00#8 0x00#8 0x00#8 0x01FD#16 0xEF#8 0x0401#16 4 [] [] = true := by
  decide

theorem test_plp_CT25 :
    ends (start 0x00#8 0x00#8 0x00#8 0x01FC#16 0xEF#8 0x0400#16
        [(0x01FD, 0x00#8), (0x0400, 0x28#8)])
      0x00#8 0x00#8 0x00#8 0x01FD#16 0x20#8 0x0401#16 4 [] [] = true := by
  decide

theorem test_clc_CT26 :
    ends (start 0x00#8 0x00#8 0x00#8 0x01FD#16 0x25#8 0x0400#16
        [(0x0400, 0x18#8)])
      0x00#8 0x00#8 0x00#8 0x01FD#16 0x24#8 0x0401#16 2 [] [] = true := by
  decide

theorem test_cld_CT27 :
    ends (start 0x00#8 0x00#8 0x00#8 0x01FD#16 0x2C#8 0x0400#16
        [(0x0400, 0xD8#8)])
      0x00#8 0x00#8 0x00#8 0x01FD#16 0x24#8 0x0401#16 2 [] [] = true := by
  decide

theorem test_cli_CT28 :
    ends (start 0x00#8 0x00#8 0x00#8 0x01FD#16 0x24#8 0x0400#16
        [(0x0400, 0x58#8)])
      0x00#8 0x00#8 0x00#8 0x01FD#16 0x20#8 0x0401#16 2 [] [] = true := by
  decide

theorem test_clv_CT29 :
    ends (start 0x00#8 0x00#8 0x00#8 0x01FD#16 0x64#8 0x0400#16
        [(0x0400, 0xB8#8)])
      0x00#8 0x00#8 0x00#8 0x01FD#16 0x24#8 0x0401#16 2 [] [] = true := by
  decide

theorem test_sec_CT30 :
    ends (start 0x00#8 0x00#8 0x00#8 0x01FD#16 0x24#8 0x0400#16
        [(0x0400, 0x38#8)])
      0x00#8 0x00#8 0x00#8 0x01FD#16 0x25#8 0x0401#16 2 [] [] = true := by
  decide

theorem test_sed_CT31 :
    ends (start 0x00#8 0x00#8 0x00#8 0x01FD#16 0x24#8 0x0400#16
        [(0x0400, 0xF8#8)])
      0x00#8 0x00#8 0x00#8 0x01FD#16 0x2C#8 0x0401#16 2 [] [] = true := by
  decide

theorem test_sei_CT32 :
    ends (start 0x00#8 0x00#8 0x00#8 0x01FD#16 0x20#8 0x0400#16
        [(0x0400, 0x78#8)])
      0x00#8 0x00#8 0x00#8 0x01FD#16 0x24#8 0x0401#16 2 [] [] = true := by
  decide

theorem test_nop_CT33 :
    ends (start 0x00#8 0x00#8 0x00#8 0x01FD#16 0x24#8 0x0400#16
        [(0x0400, 0xEA#8)])
      0x00#8 0x00#8 0x00#8 0x01FD#16 0x24#8 0x0401#16 2 [] [] = true := by
  decide

theorem test_nop1A_UD1 :
    ends (start 0x00#8 0x00#8 0x00#8 0x01FD#16 0x24#8 0x0400#16
        [(0x0400, 0x1A#8)])
      0x00#8 0x00#8 0x00#8 0x01FD#16 0x24#8 0x0401#16 2 [] [] = true := by
  decide

theorem test_nop80_UD2 :
    ends (start 0x00#8 0x00#8 0x00#8 0x01FD#16 0x24#8 0x0400#16
        [(0x0400, 0x80#8), (0x0401, 0xFF#8)])
      0x00#8 0x00#8 0x00#8 0x01FD#16 0x24#8 0x0402#16 2 [] [] = true := by
  decide

theorem test_laxZp_UD8 :
    ends (start 0x00#8 0x00#8 0x00#8 0x01FD#16 0x24#8 0x0400#16
        [(0x0010, 0x80#8), (0x0400, 0xA7#8), (0x0401, 0x10#8)])
      0x80#8 0x80#8 0x00#8 0x01FD#16 0xA4#8 0x0402#16 3 [] [] = true := by
  decide

theorem test_laxAbsY_UD9 :
    ends (start 0x00#8 0x00#8 0x10#8 0x01FD#16 0x24#8 0x0400#16
        [(0x0300, 0x00#8), (0x0400, 0xBF#8), (0x0401, 0xF0#8), (0x0402, 0x02#8)])
      0x00#8 0x00#8 0x10#8 0x01FD#16 0x26#8 0x0403#16 5 [] [] = true := by
  decide

theorem test_saxZp_UD10 :
    ends (start 0xF0#8 0x3C#8 0x00#8 0x01FD#16 0x24#8 0x0400#16
        [(0x0400, 0x87#8), (0x0401, 0x10#8)])
      0xF0#8 0x3C#8 0x00#8 0x01FD#16 0x24#8 0x0402#16 3 [(0x0010, 0x30#8)] [] = true := by
  decide

theorem test_saxIndX_UD11 :
    ends (start 0xFF#8 0x02#8 0x00#8 0x01FD#16 0x24#8 0x0400#16
        [(0x0012, 0x00#8), (0x0013, 0x03#8), (0x0400, 0x83#8), (0x0401, 0x10#8)])
      0xFF#8 0x02#8 0x00#8 0x01FD#16 0x24#8 0x0402#16 6 [(0x0300, 0x02#8)] [] = true := by
  decide

theorem test_sbcEB_UD12 :
    ends (start 0x05#8 0x00#8 0x00#8 0x01FD#16 0x25#8 0x0400#16
        [(0x0400, 0xEB#8), (0x0401, 0x03#8)])
      0x02#8 0x00#8 0x00#8 0x01FD#16 0x25#8 0x0402#16 2 [] [] = true := by
  decide

theorem test_dcpZp_UD13 :
    ends (start 0x10#8 0x00#8 0x00#8 0x01FD#16 0x24#8 0x0400#16
        [(0x0010, 0x11#8), (0x0400, 0xC7#8), (0x0401, 0x10#8)])
      0x10#8 0x00#8 0x00#8 0x01FD#16 0x27#8 0x0402#16 5 [(0x0010, 0x10#8)] [] = true := by
  decide

theorem test_dcpZp_UD14 :
    ends (start 0x10#8 0x00#8 0x00#8 0x01FD#16 0x24#8 0x0400#16
        [(0x0010, 0x00#8), (0x0400, 0xC7#8), (0x0401, 0x10#8)])
      0x10#8 0x00#8 0x00#8 0x01FD#16 0x24#8 0x0402#16 5 [(0x0010, 0xFF#8)] [] = true := by
  decide

theorem test_isbZp_UD16 :
    ends (start 0x10#8 0x00#8 0x00#8 0x01FD#16 0x25#8 0x0400#16
        [(0x0010, 0x0F#8), (0x0400, 0xE7#8), (0x0401, 0x10#8)])
      0x00#8 0x00#8 0x00#8 0x01FD#16 0x27#8 0x0402#16 5 [(0x0010, 0x10#8)] [] = true := by
  decide

theorem test_isbZp_UD17 :
    ends (start 0x00#8 0x00#8 0x00#8 0x01FD#16 0x25#8 0x0400#16
        [(0x0010, 0xFF#8), (0x0400, 0xE7#8), (0x0401, 0x10#8)])
      0x00#8 0x00#8 0x00#8 0x01FD#16 0x27#8 0x0402#16 5 [(0x0010, 0x00#8)] [] = true := by
  decide

theorem test_sloZp_UD18 :
    ends (start 0x01#8 0x00#8 0x00#8 0x01FD#16 0x24#8 0x0400#16
        [(0x0010, 0x81#8), (0x0400, 0x07#8), (0x0401, 0x10#8)])
      0x03#8 0x00#8 0x00#8 0x01FD#16 0x25#8 0x0402#16 5 [(0x0010, 0x02#8)] [] = true := by
  decide

theorem test_rlaZp_UD19 :
    ends (start 0xFF#8 0x00#8 0x00#8 0x01FD#16 0x25#8 0x0400#16
        [(0x0010, 0x81#8), (0x0400, 0x27#8), (0x0401, 0x10#8)])
      0x03#8 0x00#8 0x00#8 0x01FD#16 0x25#8 0x0402#16 5 [(0x0010, 0x03#8)] [] = true := by
  decide

theorem test_sreZp_UD20 :
    ends (start 0xFF#8 0x00#8 0x00#8 0x01FD#16 0x24#8 0x0400#16
        [(0x0010, 0x03#8), (0x0400, 0x47#8), (0x0401, 0x10#8)])
      0xFE#8 0x00#8 0x00#8 0x01FD#16 0xA5#8 0x0402#16 5 [(0x0010, 0x01#8)] [] = true := by
  decide

theorem test_rraZp_UD21 :
    ends (start 0x10#8 0x00#8 0x00#8 0x01FD#16 0x24#8 0x0400#16
        [(0x0010, 0x03#8), (0x0400, 0x67#8), (0x0401, 0x10#8)])
      0x12#8 0x00#8 0x00#8 0x01FD#16 0x24#8 0x0402#16 5 [(0x0010, 0x01#8)] [] = true := by
  decide

theorem test_rraZp_UD22 :
    ends (start 0x7F#8 0x00#8 0x00#8 0x01FD#16 0x24#8 0x0400#16
        [(0x0010, 0x02#8), (0x0400, 0x67#8), (0x0401, 0x10#8)])
      0x80#8 0x00#8 0x00#8 0x01FD#16 0xE4#8 0x0402#16 5 [(0x0010, 0x01#8)] [] = true := by
  decide

theorem test_sloIndY_UD23 :
    ends (start 0x00#8 0x00#8 0x20#8 0x01FD#16 0x24#8 0x0400#16
        [(0x0010, 0xF0#8), (0x0011, 0x02#8), (0x0310, 0x01#8), (0x0400, 0x13#8), (0x0401, 0x10#8)])
      0x02#8 0x00#8 0x20#8 0x01FD#16 0x24#8 0x0402#16 8 [(0x0310, 0x02#8)] [] = true := by
  decide

theorem test_brk_FT4 :
    ends (start 0x00#8 0x00#8 0x00#8 0x0101#16 0x24#8 0x0400#16
        [(0xFFFE, 0x00#8), (0xFFFF, 0x90#8), (0x0400, 0x00#8)])
      0x00#8 0x00#8 0x00#8 0x01FE#16 0x24#8 0x9000#16 7 [(0x0101, 0x04#8), (0x0100, 0x02#8), (0x01FF, 0x34#8)] [] = true := by
  decide

/-! ### Resets, faults and interrupts -/

def isNext : StepOutcome → Bool
  | .next _ => true
  | .fault _ | .refused _ => false

theorem exists_of_isNext {o : StepOutcome} (h : isNext o = true) : ∃ t, o = .next t := by
  cases o with
  | next t => exact ⟨t, rfl⟩
  | fault r => cases h
  | refused r => cases h

/-- `A9 05` at 0x8000: LDA immediate 5. -/
def running : State := start 0 0 0 0x01FD#16 0x24#8 0x8000#16 [(0x8000, 0xA9#8), (0x8001, 0x05#8)]

/-- An unmapped byte at 0x8000. -/
def broken : State := start 0 0 0 0x01FD#16 0x24#8 0x8000#16 [(0x8000, 0x02#8)]

/-- The fatal fault names the byte and the address it was fetched from, and leaves `PC` there (R176, R177). -/
theorem test_unmapped_opcode_is_fatal :
    (match step broken with
      | .fault (.unmappedOpcode op address left) =>
        op == 0x02#8 && address == 0x8000#16 && left.pc == 0x8000#16 && left.halted && left.storage == broken.storage
      | _ => false) = true := by
  decide

theorem test_halted_block_has_no_step :
    (match step { broken with halted := true } with
      | .fault .halted => true
      | _ => false) = true := by
  decide

/-- `reset()` reads the little-endian vector at 0xFFFC (R35, R195). -/
theorem test_reset_vector :
    (match resetBlock (start 1 2 3 0x0100#16 0xFF#8 0#16 [(0xFFFC, 0x34#8), (0xFFFD, 0x12#8)]) with
      | .next t => t.a == 0#8 && t.sp == 0x01FD#16 && t.p == 0x24#8 && t.pc == 0x1234#16
      | _ => false) = true := by
  decide

/-- `debug` mode starts at 0xC000 (R35). -/
theorem test_reset_debug :
    (match resetBlock { running with config := { Config.default with resetMode := .debug } } with
      | .next t => t.pc == 0xC000#16
      | _ => false) = true := by
  decide

/-- A block of the optional extension, with both inputs set. -/
def interrupted (p : Byte) (nmi : Bool) : State :=
  { start 0 0 0 0x01FD#16 p 0x8042#16 [(0xFFFA, 0x00#8), (0xFFFB, 0x90#8), (0xFFFE, 0x00#8), (0xFFFF, 0xA0#8)] with
    config := { Config.default with hwInterrupts := true }
    nmiPending := nmi
    irqLine := true }

/-- NMI first, even with `I` set: `PC`, then `P` with bit 4 clear, `I` set, the vector at 0xFFFA, 7 cycles (R185, R186). -/
theorem test_nmi_entry :
    (match step (interrupted 0xE7#8 true) with
      | .next t =>
        t.pc == 0x9000#16 && t.sp == 0x01FA#16 && t.p == 0xE7#8 && t.cycles == 7 && !t.nmiPending &&
          t.byteAt 0x01FD == 0x80#8 && t.byteAt 0x01FC == 0x42#8 && t.byteAt 0x01FB == 0xE7#8
      | _ => false) = true := by
  decide

theorem test_irq_entry :
    (match step (interrupted 0x20#8 false) with
      | .next t => t.pc == 0xA000#16 && t.p == 0x24#8 && t.byteAt 0x01FB == 0x20#8 && t.irqLine
      | _ => false) = true := by
  decide

/-- A word of the opcode table is what the next step runs. -/
theorem test_withFetchWord :
    (match step (State.reset.withFetchWord 16 0x05A9) with
      | .next t => t.a == 0x05#8 && t.pc == 0x8002#16 && t.cycles == 2
      | _ => false) = true := by
  decide

/-- The source's scenario of R83: the event of `A9 05`. -/
theorem test_trace_event :
    (match running.traceEvent with
      | some e => e.opcode == 0xA9#8 && e.operands == [0x05#8] && e.a == 0x05#8 && e.cycles == 2
      | none => false) = true := by
  decide

/-! ### Witnesses: states and operands that meet the hypotheses of the statements -/

theorem running_inv : MachineInv running :=
  ⟨by decide, by decide, by decide, by decide, by decide⟩

theorem broken_inv : MachineInv broken :=
  ⟨by decide, by decide, by decide, by decide, by decide⟩

theorem running_fetches : Claims.Fetches running := by constructor <;> decide

theorem broken_fetches : Claims.Fetches broken := by constructor <;> decide

theorem running_next : ∃ t, step running = .next t := exists_of_isNext (by decide)

theorem broken_fault : ∃ r, step broken = .fault r := by
  have h : isNext (step broken) = false := by decide
  cases hs : step broken with
  | next t => rw [hs] at h; cases h
  | fault r => exact ⟨r, rfl⟩
  | refused r =>
    have : (match step broken with | .refused _ => true | _ => false) = false := by decide
    rw [hs] at this; cases this

theorem witness_DecodeEncodeRoundTrip :
    (Instr.ldaAbs 0xFFFF#16).wellFormed = true ∧ (Instr.unmapped 0xF2#8).wellFormed = true := by decide

theorem witness_DecodedBytesAreTheEncoding : decode [0xA9#8, 0xFF#8, 0xEA#8] = .ok (.ldaImm 0xFF#8) [0xEA#8] := by
  decide

theorem witness_StepRunsTheDecodedInstruction :
    Claims.Fetches running ∧ (Instr.ldaImm 0x05#8).wellFormed = true ∧
      Claims.CodeAt running running.pc (encode (.ldaImm 0x05#8)) ∧
      ∀ op ∈ (encode (.ldaImm 0x05#8)).head?, running.config.removed.contains op = false := by
  refine ⟨running_fetches, by decide, fun k hk => ?_, by decide⟩
  have : k < 2 := hk
  interval_cases k <;> exact ⟨by decide, rfl⟩

/-- The same where the instruction wraps from 0xFFFF to 0x0000. -/
theorem witness_StepRunsTheDecodedInstruction_wrap :
    let s := start 0 0 0 0x01FD#16 0x24#8 0xFFFF#16 [(0xFFFF, 0xA9#8), (0x0000, 0x05#8)]
    Claims.Fetches s ∧ Claims.CodeAt s s.pc (encode (.ldaImm 0x05#8)) := by
  refine ⟨by constructor <;> decide, fun k hk => ?_⟩
  have : k < 2 := hk
  interval_cases k <;> exact ⟨by decide, rfl⟩

/-- `PC` at the debug shim, which answers with a NOP: a fetch at a `PERIPH` address. -/
def shimmed : State :=
  { start 0 0 0 0x01FD#16 0x24#8 0x2002#16 [] with
    config := { Config.default with resetMode := .debug, statusShimValue := 0xEA#8 } }

/-- One state that fetches from Storage, one that fetches at a `PERIPH` address. -/
theorem witness_StepFetchesThroughTheBus :
    (Claims.Fetches running ∧ decode (Claims.streamBytes 2 (Claims.begun running)).1 = .ok (.ldaImm 0x05#8) [] ∧
        ∀ op ∈ (Claims.streamBytes 2 (Claims.begun running)).1.head?, running.config.removed.contains op = false) ∧
      Claims.Fetches shimmed ∧ decode (Claims.streamBytes 1 (Claims.begun shimmed)).1 = .ok .nop [] ∧
        ∀ op ∈ (Claims.streamBytes 1 (Claims.begun shimmed)).1.head?, shimmed.config.removed.contains op = false :=
  ⟨⟨running_fetches, by decide, by decide⟩, ⟨by decide, by decide⟩, by decide, by decide⟩

/-- `MAPPED_SET` narrowed by the opcode at `PC`. -/
def narrowed : State := { running with config := { Config.default with removed := [0xA9#8] } }

theorem witness_UnmappedOpcodeIsFatalAndChangesNothing :
    (Claims.Fetches broken ∧
        hasHandler (({ Claims.begun broken with pc := broken.pc + 1 } : State).read8 broken.pc).1 = false) ∧
      Claims.Fetches narrowed ∧
        narrowed.config.removed.contains
          (({ Claims.begun narrowed with pc := narrowed.pc + 1 } : State).read8 narrowed.pc).1 = true :=
  ⟨⟨broken_fetches, by decide⟩, ⟨by decide, by decide⟩, by decide⟩

theorem witness_UnmappedInstructionStops : Instr.brk.mnemonic ≠ .unmapped := by decide

theorem witness_HaltedBlockHasNoFurtherOutcome :
    ({ broken with halted := true } : State).halted = true ∧
      ∃ op a left, step broken = .fault (.unmappedOpcode op a left) := by
  refine ⟨rfl, ?_⟩
  obtain ⟨r, hr⟩ := broken_fault
  have h : (match step broken with | .fault .halted => true | _ => false) = false := by decide
  cases r with
  | unmappedOpcode op a left => exact ⟨op, a, left, hr⟩
  | halted => rw [hr] at h; cases h

theorem witness_EveryMappedStepTakesTwoCyclesAndAdvances :
    Claims.Fetches running ∧ (∃ t, step running = .next t) ∧
      decode (Claims.streamBytes 2 (Claims.begun running)).1 = .ok (.ldaImm 0x05#8) [] ∧
      (Instr.ldaImm 0x05#8).mnemonic ∉ Claims.controlMnemonics :=
  ⟨running_fetches, running_next, by decide, by decide⟩

theorem witness_PlacedWordIsRun :
    decodeTableWord 24 0x2008AD = some (.ldaAbs 0x2008#16) ∧
      ∀ op ∈ (encode (.ldaAbs 0x2008#16)).head?, State.reset.config.removed.contains op = false := by
  decide

theorem witness_StepKeepsTheInvariant :
    (MachineInv running ∧ ∃ t, step running = .next t) ∧
      MachineInv broken ∧ ∃ op a left, step broken = .fault (.unmappedOpcode op a left) :=
  ⟨⟨running_inv, running_next⟩, broken_inv, witness_HaltedBlockHasNoFurtherOutcome.2⟩

/-- A program bank of one byte repeated. -/
def someBank : ProgramBank := Vector.replicate 0x4000 0xEA#8

theorem witness_HostCallsKeepTheInvariant :
    MachineInv State.reset ∧ (∃ t, loadBank 0x8000#16 someBank State.reset = .next t) ∧
      (∃ t, loadCartridge someBank none State.reset = .next t) ∧ ∃ t, resetBlock State.reset = .next t :=
  ⟨⟨⟨List.Pairwise.nil, fun _ h => nomatch h⟩, rfl, rfl, rfl, by decide⟩, ⟨_, rfl⟩, ⟨_, rfl⟩, ⟨_, rfl⟩⟩

theorem witness_ResetLoadsTheRegisterFile : running.halted = false := by decide

/-- One state for each reset mode. -/
theorem witness_ResetDoesNotChangeStorage :
    (running.config.resetMode = .vector ∧ ∃ t, resetBlock running = .next t) ∧
      shimmed.config.resetMode = .debug ∧ ∃ t, resetBlock shimmed = .next t :=
  ⟨⟨rfl, _, rfl⟩, rfl, _, rfl⟩

/-- A first bank at 0xC000 and a second after it. -/
theorem witness_LoadBankCopiesVerbatim :
    ∃ t u, loadBank 0xC000#16 someBank State.reset = .next t ∧ loadBank 0x8000#16 someBank t = .next u :=
  ⟨_, _, rfl, rfl⟩

/-- One state for each clause: accepted, a third load, another offset, a load once a step was called, after a step
that answers, after one that faults. -/
theorem witness_LoadBankRefusals :
    (State.reset.started = false ∧ State.reset.banksLoaded < 2) ∧
      (({ State.reset with banksLoaded := 2 } : State).started = false ∧
        2 ≤ ({ State.reset with banksLoaded := 2 } : State).banksLoaded) ∧
      ((0x8001#16 : Word) ≠ 0x8000#16 ∧ (0x8001#16 : Word) ≠ 0xC000#16) ∧
      (Claims.begun running).started = true ∧ (∃ t, step running = .next t) ∧
      ∃ op a left, step broken = .fault (.unmappedOpcode op a left) :=
  ⟨by decide, by decide, by decide, rfl, running_next, witness_HaltedBlockHasNoFurtherOutcome.2⟩

theorem witness_CartridgeBanksAreLoaded :
    (State.reset.started = false ∧ State.reset.banksLoaded = 0) ∧
      0x8000 ≤ (0xBFFF#16 : Word).toNat ∧ (0xBFFF#16 : Word).toNat < 0xC000 := by
  decide

theorem witness_ReadsOutsidePeriphHaveNoEffect :
    (0x1FFF#16 : Word).toNat ≤ 0x1FFF ∧ isPeriph (Machine.translate 0x4015#16) = false ∧
      running.storage.lookup (Machine.translate 0x4015#16).toNat = none ∧
      isPeriph (Machine.translate 0x0800#16) = false ∧
      Machine.translate 0x0000#16 = Machine.translate 0x0800#16 := by
  decide

/-- A state of `debug` mode. -/
def debugging : State := { running with config := { Config.default with resetMode := .debug } }

theorem witness_PeripheralReadsAreDelegated :
    (isPeriph (Machine.translate 0x3FFA#16) = true ∧ debugging.config.resetMode = .debug ∧
        Machine.translate 0x3FFA#16 = debugging.config.statusShimAddr) ∧
      (isPeriph (Machine.translate 0x3FFF#16) = true ∧
        ¬(running.config.resetMode = .debug ∧ Machine.translate 0x3FFF#16 = running.config.statusShimAddr)) ∧
      isPeriph (Machine.translate 0x4014#16) = true := by
  decide

theorem witness_WindowMirrorsCallTheSameRegister :
    (0x2000 ≤ (0x2000#16 : Word).toNat ∧ (0x2000#16 : Word).toNat ≤ 0x3FFF) ∧
      0x2000 ≤ (0x3FFF#16 : Word).toNat ∧ (0x3FFF#16 : Word).toNat ≤ 0x3FFF := by
  decide

theorem witness_WordReadsTakeTheHighByteUntranslated :
    running.config.read16Retranslate = false ∧
      ({ running with config := { Config.default with read16Retranslate := true } } : State).config.read16Retranslate =
        true := by
  decide

theorem witness_StoresAreSeenByTheNextFetch :
    Machine.translate running.pc = Machine.translate 0x8000#16 ∧ isPeriph (Machine.translate 0x8000#16) = false := by
  decide

theorem witness_PullIncrementsThenReadsAndUndoesPush :
    hi8 ({ running with sp := 0x0100#16 } : State).sp = 0x01#8 ∧
      hi8 ({ running with sp := 0x01FF#16 } : State).sp = 0x01#8 := by
  decide

/-- A store to a peripheral register completes, and 0x2001 is not the byte it stores to. -/
theorem witness_EveryOtherByteIsUnchanged :
    (∃ t, exec (.staAbs 0x2008#16) running = .next t) ∧
      ∀ a ∈ Claims.storedAddresses (.staAbs 0x2008#16) running, 0x2001 ≠ (Machine.translate a).toNat := by
  refine ⟨exists_of_isNext rfl, fun a ha => ?_⟩
  simp only [Claims.storedAddresses, Instr.mnemonic, Instr.addrMode, State.effectiveAddress, Option.map_some,
    Option.toList_some, List.mem_singleton] at ha
  subst ha
  decide

theorem witness_RegistersChangeOnlyByTheirWriters :
    (∃ t, exec (.aslZp 0x10#8) running = .next t) ∧
      (Instr.aslZp 0x10#8).mnemonic ∉
        [.lda, .txa, .tya, .pla, .adc, .sbc, .and, .ora, .eor, .lax, .slo, .rla, .sre, .rra, .isb] ∧
      (Instr.aslZp 0x10#8) ∉ [.aslAcc, .lsrAcc, .rolAcc, .rorAcc] ∧
      (Instr.aslZp 0x10#8).mnemonic ∉ Claims.controlMnemonics :=
  ⟨⟨_, rfl⟩, by decide, by decide, by decide⟩

theorem witness_FlagsChangeOnlyByTheirWriters : ∃ t, exec (.jmpInd 0x02FF#16) running = .next t := ⟨_, rfl⟩

theorem witness_NoInstructionTouchesTheBlocksOtherState : ∃ t, exec .brk running = .next t := ⟨_, rfl⟩

theorem witness_ReadModifyWriteTouchesThePortTwice :
    (Instr.incAbs 0x2007#16).mnemonic ∈ Claims.modifyMnemonics ∧
      (Instr.incAbs 0x2007#16).addrMode = some (.absolute 0x2007#16) ∧
      isPeriph (Machine.translate (running.effectiveAddress (.absolute 0x2007#16))) = true ∧
      ¬(running.config.resetMode = .debug ∧
        Machine.translate (running.effectiveAddress (.absolute 0x2007#16)) = running.config.statusShimAddr) := by
  decide

theorem witness_DecimalFlagHasNoEffectOnArithmetic :
    (Instr.rraIndY 0x10#8).mnemonic ∈ [Mnemonic.adc, .sbc, .isb, .rra] := by decide

theorem witness_ReturnFromInterruptUndoesBreak :
    MachineInv running ∧ running.config.brkPushOrder = .highFirst ∧
      ∃ t u : State, exec .brk running = .next t ∧ u.sp = t.sp ∧ u.storage = t.storage :=
  ⟨running_inv, by decide, _, _, rfl, rfl, rfl⟩

theorem witness_ReturnUndoesCall :
    MachineInv running ∧ ∃ t u : State, exec (.jsr 0x1234#16) running = .next t ∧ u.sp = t.sp ∧ u.storage = t.storage :=
  ⟨running_inv, _, _, rfl, rfl, rfl⟩

/-- One state for each clause: NMI, IRQ, a masked IRQ, and no extension. -/
theorem witness_InterruptsAreTakenBetweenSteps :
    ((interrupted 0x24#8 true).halted = false ∧ (interrupted 0x24#8 true).config.hwInterrupts = true ∧
        (interrupted 0x24#8 true).nmiPending = true) ∧
      ((interrupted 0x20#8 false).config.hwInterrupts = true ∧ (interrupted 0x20#8 false).nmiPending = false ∧
        (interrupted 0x20#8 false).irqLine = true ∧ (interrupted 0x20#8 false).flag .i = false) ∧
      (interrupted 0x24#8 false).flag .i = true ∧ running.config.hwInterrupts = false := by
  decide

theorem witness_TraceEventReportsTheStep :
    (Claims.Fetches running ∧ decode (Claims.streamBytes 2 (Claims.begun running)).1 = .ok (.ldaImm 0x05#8) [] ∧
        ∃ t, step running = .next t) ∧ ∃ r, step broken = .fault r :=
  ⟨⟨running_fetches, by decide, running_next⟩, broken_fault⟩

end Sys2Proof.Tests
end

section
/-! The machine invariant: the state after reset meets it, and every step and every fault keeps it. -/

namespace Sys2Proof

open Machine

/-! ### The invariant through an instruction -/

/-- The state the fatal fault leaves meets the invariant: only `PC` and the halt mark differ (R177). -/
theorem MachineInv.haltedAt {s : State} (h : MachineInv s) (pc : Word) :
    MachineInv { s with pc := pc, halted := true } := h.congr rfl rfl rfl rfl

/-- A run of a form keeps the invariant. -/
theorem MachineInv.run {s t : State} (h : MachineInv s) (f : Form) (ht : f.run s = .next t) : MachineInv t := by
  cases f
  case read base o op => exact h.readInstr (fun m _ hu => hu.readOp op m) ht
  case store base m op => exact h.storeInstr ht
  case storeIndexed base penaltyBase m => exact h.storeInstr ht
  case modify base o op => exact h.modifyInstr (fun v r _ hu => hu.modifyOp op v r) ht
  case plain base op => cases ht; exact (h.plainOp op).charge _
  case branch op dd =>
    cases ht
    cases op.taken s
    · exact h.charge _
    · exact (h.withPc _).charge _
  case jump addr => cases ht; exact (h.withPc _).charge _
  case jumpIndirect ptr => cases ht; exact h.congr (by simp) (by simp) (by simp) (by simp)
  case call addr => cases ht; exact ((h.pushWord _ _).withPc _).charge _
  case skip base o => cases ht; exact h.charge _
  case stop opcode => cases ht

theorem MachineInv.exec {s t : State} (h : MachineInv s) (i : Instr) (ht : exec i s = .next t) : MachineInv t :=
  h.run (form i) (exec_eq_run i s ▸ ht)

/-- The state an instruction's fault carries meets the invariant. -/
theorem MachineInv.exec_fault {s left : State} (h : MachineInv s) (i : Instr) {opcode : Byte} {a : Word}
    (hf : Machine.exec i s = .fault (.unmappedOpcode opcode a left)) : MachineInv left := by
  rw [exec_eq_run] at hf
  obtain ⟨op, -, hr⟩ := Form.run_fault _ _ _ hf
  cases hr
  exact h.haltedAt _

/-! ### The invariant through a step -/

/-- What a step is: the stop of a halted block, the entry of an interrupt, or the instruction fetched. -/
theorem Machine.step_cases (s : State) :
    step s = .fault .halted ∨ (∃ k, step s = .next (s.beginStep.takeInterrupt k)) ∨
      step s = Machine.exec s.beginStep.fetchInstr.instr s.beginStep.fetchInstr.after := by
  cases hh : s.halted with
  | true => exact .inl (step_of_halted s hh)
  | false =>
    cases hi : s.pendingInterrupt with
    | some k => exact .inr (.inl ⟨k, step_of_interrupt s k hh hi⟩)
    | none => exact .inr (.inr (step_of_fetch s hh hi))

/-- A completed step keeps the invariant. -/
theorem MachineInv.step {s t : State} (h : MachineInv s) (ht : Machine.step s = .next t) : MachineInv t := by
  rcases step_cases s with hs | ⟨k, hs⟩ | hs <;> rw [hs] at ht
  · cases ht
  · cases ht; exact h.beginStep.takeInterrupt k
  · exact h.beginStep.fetchInstr.exec _ ht

/-- The state a step's fatal fault leaves meets the invariant. -/
theorem MachineInv.step_fault {s left : State} (h : MachineInv s) {opcode : Byte} {a : Word}
    (hf : Machine.step s = .fault (.unmappedOpcode opcode a left)) : MachineInv left := by
  rcases step_cases s with hs | ⟨k, hs⟩ | hs <;> rw [hs] at hf
  · cases hf
  · cases hf
  · exact h.beginStep.fetchInstr.exec_fault _ hf

/-- Settles O12: the step is an interrupt entry or a fetched instruction's run, and both keep the invariant. -/
theorem stepKeepsTheInvariant : Obligations.StepKeepsTheInvariant :=
  fun _ h => ⟨fun _ ht => h.step ht, fun _ _ _ hf => h.step_fault hf⟩

/-- Settles O11, field by field: no Storage cell is listed, and the registers are literals. -/
theorem resetMeetsTheInvariant : Obligations.ResetMeetsTheInvariant where
  storage_wf := ⟨List.Pairwise.nil, fun _ hc => absurd hc List.not_mem_nil⟩
  sp_in_page_one := by decide
  unused_reads_one := by decide
  break_stored_zero := by decide
  banks_at_most_two := by decide

end Sys2Proof
end

section
/-! The stack operations, and the registers `reset()` loads. -/

namespace Sys2Proof

open Machine

/-! ### Push and pull -/

/-- Settles O26: the one write of `SP` is the word in page 1 with the new low byte. -/
theorem pushStoresThenDecrementsInPageOne : Obligations.PushStoresThenDecrementsInPageOne := by
  intro s v
  rw [← setSp_eq_word]
  rfl

/-- A pull by the bus: `SP` one higher in page 1, then one `read8` there (R33). -/
theorem Machine.State.pull_eq_read8 (s : State) :
    s.pull = ({ s with sp := word 0x01#8 (lo8 (s.sp + 1)) } : State).read8 (word 0x01#8 (lo8 (s.sp + 1))) := by
  rw [← setSp_eq_word]
  rfl

/-- One down and one up again, inside page 1, is where `SP` was. -/
theorem setSp_pred_succ (v : Word) (h : hi8 v = 0x01#8) :
    0x0100#16 ||| zext16 (lo8 ((0x0100#16 ||| zext16 (lo8 (v - 1))) + 1)) = v := by
  have low : lo8 ((0x0100#16 ||| zext16 (lo8 (v - 1))) + 1) = lo8 v := by
    apply BitVec.eq_of_toNat_eq
    have hv := v.isLt
    simp only [lo8_toNat, BitVec.toNat_add, BitVec.toNat_sub, setSp_toNat]
    omega
  rw [low, ← eq_setSp_of_page_one v h]

/-- A pull right after a push gives the byte pushed and `SP` as it was before the push. -/
theorem Machine.State.pull_push (s : State) (v : Byte) (h : hi8 s.sp = 0x01#8) :
    (s.push v).pull = (v, { s.push v with sp := s.sp }) := by
  have hb : (s.push v).byteAt s.sp.toNat = v := by
    simp [State.byteAt, translate_page_one _ h]
  rw [State.pull_eq, State.push_sp, setSp_pred_succ _ h, hb, State.setSp, setSp_pred_succ _ h]

/-- Settles O27: a pull by the bus, the pull after a push, and page 1 from the one write of `SP`. -/
theorem pullIncrementsThenReadsAndUndoesPush : Obligations.PullIncrementsThenReadsAndUndoesPush := by
  refine fun s v => ⟨s.pull_eq_read8, fun h => ?_, by simp, by simp⟩
  rw [State.pull_push s v h]
  exact ⟨rfl, rfl⟩

/-! ### What a bus read answers -/

/-- The byte a read answers, and the count of the free inputs after it, depend on Storage, the configuration and
that count alone. -/
theorem Machine.State.read8_congr {s t : State} (hm : s.storage = t.storage) (hc : s.config = t.config)
    (hn : s.periphReads = t.periphReads) (a : Word) :
    (s.read8 a).1 = (t.read8 a).1 ∧ (s.read8 a).2.periphReads = (t.read8 a).2.periphReads := by
  have shim : t.shimmed (translate a) = s.shimmed (translate a) := by rw [State.shimmed, State.shimmed, hc]
  cases hp : isPeriph (translate a) with
  | false =>
    rw [State.read8_of_not_periph s a hp, State.read8_of_not_periph t a hp]
    exact ⟨State.byteAt_congr s t hm _, hn⟩
  | true =>
    cases hs : s.shimmed (translate a) with
    | true =>
      rw [State.read8_of_shimmed s a hp hs, State.read8_of_shimmed t a hp (shim.trans hs)]
      exact ⟨congrArg Config.statusShimValue hc, hn⟩
    | false =>
      rw [State.read8_of_periph s a hp hs, State.read8_of_periph t a hp (shim.trans hs)]
      exact ⟨congrArg (Config.freePeripheralRead (translate a)) hn, congrArg (· + 1) hn⟩

/-- The word a read answers depends on the same three fields. -/
theorem Machine.State.read16_fst_congr {s t : State} (hm : s.storage = t.storage) (hc : s.config = t.config)
    (hn : s.periphReads = t.periphReads) (a : Word) : (s.read16 a).1 = (t.read16 a).1 := by
  obtain ⟨low, hn'⟩ := State.read8_congr hm hc hn a
  have high : ((s.read8 a).2.read16High a).1 = ((t.read8 a).2.read16High a).1 := by
    simp only [State.read16High, State.read8_config, hc]
    split
    · exact (State.read8_congr (by simp [hm]) (by simp [hc]) hn' _).1
    · exact State.byteAt_congr _ _ (by simp [hm]) _
  exact congrArg₂ word high low

/-! ### Reset -/

/-- `reset()` in vector mode: the loaded registers, and `PC` the word at the vector (R195). -/
theorem Machine.State.applyReset_vector (s : State) (h : s.config.resetMode = .vector) :
    s.applyReset =
      { (s.resetRegisters.read16 s.config.resetVectorAddr).2 with
        pc := (s.read16 s.config.resetVectorAddr).1 } := by
  rw [State.read16_fst_congr (s := s) (t := s.resetRegisters) rfl rfl rfl]
  simp only [State.applyReset, h]

/-- `reset()` in debug mode: the loaded registers, and `PC` the debug address (R195). -/
theorem Machine.State.applyReset_debug (s : State) (h : s.config.resetMode = .debug) :
    s.applyReset = { s.resetRegisters with pc := s.config.debugStartPc } := by
  simp only [State.applyReset, h]

/-- Settles O14, by the two reset modes. -/
theorem resetLoadsTheRegisterFile : Obligations.ResetLoadsTheRegisterFile := by
  refine ⟨fun s hs => ⟨s.applyReset, by simp [resetBlock, hs], ?_⟩, rfl, rfl, rfl, rfl, rfl, rfl⟩
  cases hm : s.config.resetMode with
  | vector => rw [State.applyReset_vector s hm]; simp [State.resetRegisters]
  | debug => rw [State.applyReset_debug s hm]; exact ⟨rfl, rfl, rfl, rfl, rfl, rfl⟩

end Sys2Proof
end

section
/-! The registers an instruction leaves unchanged: through each operation of the forms (`ReadOp`, `ModifyOp`,
`PlainOp`), then through the run of a form. -/

namespace Sys2Proof

open Machine

/-! ### The writers of each register -/

/-- The mnemonics that write `A` (R16), the shifts of the accumulator apart. -/
def aWriters : List Mnemonic :=
  [.lda, .txa, .tya, .pla, .adc, .sbc, .and, .ora, .eor, .lax, .slo, .rla, .sre, .rra, .isb]

/-- The mnemonics that write `X` (R17). -/
def xWriters : List Mnemonic := [.ldx, .tax, .tsx, .inx, .dex, .lax]

/-- The mnemonics that write `Y` (R18). -/
def yWriters : List Mnemonic := [.ldy, .tay, .iny, .dey]

/-- The mnemonics that write `SP` (R31). -/
def spWriters : List Mnemonic := [.txs, .pha, .php, .pla, .plp, .jsr, .rts, .brk, .rti]

/-! ### The registers through the operations of the forms -/

theorem Machine.ReadOp.apply_a (op : ReadOp) (m : Byte) (t : State) (h : op.mnemonic ∉ aWriters) :
    (op.apply m t).a = t.a := by
  cases op
  case ldx | ldy | bit | cmp | cpx | cpy => rfl
  all_goals exact absurd (by decide) h

theorem Machine.ReadOp.apply_x (op : ReadOp) (m : Byte) (t : State) (h : op.mnemonic ∉ xWriters) :
    (op.apply m t).x = t.x := by
  cases op
  case ldx | lax => exact absurd (by decide) h
  all_goals rfl

theorem Machine.ReadOp.apply_y (op : ReadOp) (m : Byte) (t : State) (h : op.mnemonic ∉ yWriters) :
    (op.apply m t).y = t.y := by
  cases op
  case ldy => exact absurd (by decide) h
  all_goals rfl

theorem Machine.ModifyOp.finish_a (op : ModifyOp) (v r : Byte) (t : State) (h : op.mnemonic ∉ aWriters) :
    (op.finish v r t).a = t.a := by
  cases op
  case isb | slo | rla | sre | rra => exact absurd (by decide) h
  all_goals rfl

theorem Machine.PlainOp.apply_a (op : PlainOp) (s : State) (h : op.mnemonic ∉ aWriters) : (op.apply s).a = s.a := by
  cases op
  case txa | tya | pla => exact absurd (by decide) h
  all_goals simp [PlainOp.apply]

theorem Machine.PlainOp.apply_x (op : PlainOp) (s : State) (h : op.mnemonic ∉ xWriters) : (op.apply s).x = s.x := by
  cases op
  case tax | tsx | inx | dex => exact absurd (by decide) h
  all_goals simp [PlainOp.apply]

theorem Machine.PlainOp.apply_y (op : PlainOp) (s : State) (h : op.mnemonic ∉ yWriters) : (op.apply s).y = s.y := by
  cases op
  case tay | iny | dey => exact absurd (by decide) h
  all_goals simp [PlainOp.apply]

theorem Machine.PlainOp.apply_sp (op : PlainOp) (s : State) (h : op.mnemonic ∉ spWriters) :
    (op.apply s).sp = s.sp := by
  cases op
  case txs | pha | php | pla | plp | rts | brk | rti => exact absurd (by decide) h
  all_goals rfl

theorem Machine.PlainOp.apply_pc (op : PlainOp) (s : State) (h : op.mnemonic ∉ Claims.controlMnemonics) :
    (op.apply s).pc = s.pc := by
  cases op
  case rts | brk | rti => exact absurd (by decide) h
  all_goals simp [PlainOp.apply]

theorem Machine.BranchOp.mnemonic_control (op : BranchOp) : op.mnemonic ∈ Claims.controlMnemonics := by
  cases op <;> decide

/-! ### The registers through a run -/

/-- A branch changes `PC` and the cycle count alone (R97). -/
theorem Machine.branch_next {base : Nat} {cond : Bool} {dd : Byte} {s t : State}
    (h : branch base cond dd s = .next t) : ∃ pc cycles, t = { s with pc := pc, cycles := cycles } := by
  cases h
  cases cond
  · exact ⟨s.pc, base, rfl⟩
  · exact ⟨_, _, rfl⟩

/-- `A` after a run of a form that does not write it; a shift writes it in accumulator mode only (R16). -/
theorem Machine.Form.run_a (f : Form) {s t : State} (ht : f.run s = .next t) (h : f.mnemonic ∉ aWriters)
    (hacc : ∀ base op, f ≠ .modify base .accumulator op) : t.a = s.a := by
  cases f
  case read base o op => cases ht; exact (op.apply_a _ _ h).trans (s.readOperand_a o)
  case modify base o op =>
    cases ht
    refine (op.finish_a _ _ _ h).trans ?_
    cases o with
    | accumulator => exact absurd rfl (hacc base op)
    | immediate nn => rfl
    | memory m => simp [State.writeBack]
  case plain base op => cases ht; exact op.apply_a s h
  case branch op dd => obtain ⟨_, _, rfl⟩ := branch_next ht; rfl
  case stop opcode => cases ht
  case store | storeIndexed | jump | jumpIndirect | call | skip => cases ht; simp

theorem Machine.Form.run_x (f : Form) {s t : State} (ht : f.run s = .next t) (h : f.mnemonic ∉ xWriters) :
    t.x = s.x := by
  cases f
  case read base o op => cases ht; exact (op.apply_x _ _ h).trans (s.readOperand_x o)
  case plain base op => cases ht; exact op.apply_x s h
  case branch op dd => obtain ⟨_, _, rfl⟩ := branch_next ht; rfl
  case stop opcode => cases ht
  case store | storeIndexed | modify | jump | jumpIndirect | call | skip => cases ht; simp

theorem Machine.Form.run_y (f : Form) {s t : State} (ht : f.run s = .next t) (h : f.mnemonic ∉ yWriters) :
    t.y = s.y := by
  cases f
  case read base o op => cases ht; exact (op.apply_y _ _ h).trans (s.readOperand_y o)
  case plain base op => cases ht; exact op.apply_y s h
  case branch op dd => obtain ⟨_, _, rfl⟩ := branch_next ht; rfl
  case stop opcode => cases ht
  case store | storeIndexed | modify | jump | jumpIndirect | call | skip => cases ht; simp

theorem Machine.Form.run_sp (f : Form) {s t : State} (ht : f.run s = .next t) (h : f.mnemonic ∉ spWriters) :
    t.sp = s.sp := by
  cases f
  case plain base op => cases ht; exact op.apply_sp s h
  case branch op dd => obtain ⟨_, _, rfl⟩ := branch_next ht; rfl
  case call addr => exact absurd (by simp [Form.mnemonic, spWriters]) h
  case stop opcode => cases ht
  case read | store | storeIndexed | modify | jump | jumpIndirect | skip => cases ht; simp

theorem Machine.Form.run_pc (f : Form) {s t : State} (ht : f.run s = .next t)
    (h : f.mnemonic ∉ Claims.controlMnemonics) : t.pc = s.pc := by
  cases f
  case plain base op => cases ht; exact op.apply_pc s h
  case branch op dd => exact absurd op.mnemonic_control h
  case jump | jumpIndirect | call => exact absurd (by simp [Form.mnemonic, Claims.controlMnemonics]) h
  case stop opcode => cases ht
  case read | store | storeIndexed | modify | skip => cases ht; simp

/-- The instructions that modify the accumulator are the four shifts in accumulator mode. -/
theorem mem_accumulator_shifts_of_form {i : Instr} {base : Nat} {op : ModifyOp}
    (h : form i = .modify base .accumulator op) : i ∈ [Instr.aslAcc, .lsrAcc, .rolAcc, .rorAcc] := by
  cases i
  case aslAcc | lsrAcc | rolAcc | rorAcc => decide
  all_goals cases h

/-- Settles O50: each register by the form of the instruction. -/
theorem registersChangeOnlyByTheirWriters : Obligations.RegistersChangeOnlyByTheirWriters := by
  intro i s t ht
  rw [exec_eq_run] at ht
  rw [mnemonic_eq_form]
  exact ⟨fun ha hacc => (form i).run_a ht ha fun _ _ hf => hacc (mem_accumulator_shifts_of_form hf),
    (form i).run_x ht, (form i).run_y ht, (form i).run_sp ht, (form i).run_pc ht⟩

end Sys2Proof
end

section
/-! The status register: its layout, and the flags an instruction leaves unchanged. -/

namespace Sys2Proof

open Machine

/-! ### The layout of `P` -/

/-- A byte is the sum of its bits. -/
theorem byte_toNat_eq_bits : ∀ p : Byte, p.toNat =
    128 * (p.getLsbD 7).toNat + 64 * (p.getLsbD 6).toNat + 32 * (p.getLsbD 5).toNat + 16 * (p.getLsbD 4).toNat +
      8 * (p.getLsbD 3).toNat + 4 * (p.getLsbD 2).toNat + 2 * (p.getLsbD 1).toNat + (p.getLsbD 0).toNat := by
  decide

/-- `P` is `N V U B D I Z C` from bit 7 down (R21). -/
theorem Machine.State.p_toNat (s : State) : s.p.toNat =
    128 * (s.flag .n).toNat + 64 * (s.flag .v).toNat + 32 * (s.flag .u).toNat + 16 * (s.flag .b).toNat +
      8 * (s.flag .d).toNat + 4 * (s.flag .i).toNat + 2 * (s.flag .z).toNat + (s.flag .c).toNat :=
  byte_toNat_eq_bits s.p

/-- A status byte made of flags has bit 5 set and bit 4 clear (R26, R27). -/
theorem statusByte_toNat : ∀ n v d i z c : Bool, (statusByte n v d i z c).toNat =
    128 * n.toNat + 64 * v.toNat + 32 + 8 * d.toNat + 4 * i.toNat + 2 * z.toNat + c.toNat := by
  decide

/-- Two states whose flags agree have the same `P`. -/
theorem Machine.State.p_eq_of_flags {s t : State} (h : ∀ g, t.flag g = s.flag g) : t.p = s.p :=
  BitVec.eq_of_toNat_eq (by simp only [State.p_toNat, h])

/-! ### The writers of each flag -/

/-- The mnemonics that write `N` and `Z` (R23, R29). -/
def nzWriters : List Mnemonic :=
  [.lda, .ldx, .ldy, .tax, .tay, .txa, .tya, .tsx, .pla, .adc, .sbc, .and, .ora, .eor, .bit, .cmp, .cpx, .cpy,
    .inc, .dec, .inx, .iny, .dex, .dey, .asl, .lsr, .rol, .ror, .plp, .rti, .lax, .dcp, .isb, .slo, .rla, .sre,
    .rra]

/-- The mnemonics that write `C` (R22). -/
def cWriters : List Mnemonic :=
  [.adc, .sbc, .cmp, .cpx, .cpy, .asl, .lsr, .rol, .ror, .clc, .sec, .plp, .rti, .dcp, .isb, .slo, .rla, .sre, .rra]

/-- The mnemonics that write `V` (R28). -/
def vWriters : List Mnemonic := [.adc, .sbc, .bit, .clv, .plp, .rti, .isb, .rra]

/-- The mnemonics that write `I` (R24). -/
def iWriters : List Mnemonic := [.cli, .sei, .brk, .plp, .rti]

/-- The mnemonics that write `D` (R25). -/
def dWriters : List Mnemonic := [.cld, .sed, .plp, .rti]

/-- The mnemonics that may change a flag. `U` and `B` are hard-wired at each write of `P` (R26, R27), so every
writer of a flag writes them too. -/
def flagWriters : Flag → List Mnemonic
  | .n | .z => nzWriters
  | .c => cWriters
  | .v => vWriters
  | .i => iWriters
  | .d => dWriters
  | .u | .b => nzWriters ++ cWriters ++ vWriters ++ iWriters ++ dWriters

theorem flagWriters_subset {m : Mnemonic} (f : Flag) (h : m ∈ flagWriters f) :
    m ∈ nzWriters ++ cWriters ++ vWriters ++ iWriters ++ dWriters := by
  simp only [List.mem_append]
  cases f
  case n | z => exact .inl (.inl (.inl (.inl h)))
  case c => exact .inl (.inl (.inl (.inr h)))
  case v => exact .inl (.inl (.inr h))
  case i => exact .inl (.inr h)
  case d => exact .inr h
  case u | b => simpa only [flagWriters, List.mem_append] using h

/-! ### A flag that a mnemonic does not write, through the operations on `P`

Throughout, `m` is the mnemonic of the instruction at work and `g` a flag it is no writer of. -/

section
variable {m : Mnemonic} {g : Flag} (hm : m ∉ flagWriters g) (s : State)
include hm

theorem Machine.State.setFlag_keeps {f : Flag} (hf : m ∈ flagWriters f) (b : Bool) :
    (s.setFlag f b).flag g = s.flag g := by
  have hgf : g ≠ f := by rintro rfl; exact hm hf
  have hu : g ≠ .u := by rintro rfl; exact hm (flagWriters_subset f hf)
  have hb : g ≠ .b := by rintro rfl; exact hm (flagWriters_subset f hf)
  exact s.flag_setFlag_other f g b hgf hu hb

theorem Machine.State.setNZ_keeps (hnz : m ∈ nzWriters) (v : Byte) : (s.setNZ v).flag g = s.flag g :=
  (State.setFlag_keeps hm _ (f := .n) hnz _).trans (State.setFlag_keeps hm s (f := .z) hnz _)

theorem Machine.State.setA_keeps (hnz : m ∈ nzWriters) (v : Byte) : (s.setA v).flag g = s.flag g :=
  State.setNZ_keeps hm { s with a := v } hnz v

theorem Machine.State.setX_keeps (hnz : m ∈ nzWriters) (v : Byte) : (s.setX v).flag g = s.flag g :=
  State.setNZ_keeps hm { s with x := v } hnz v

theorem Machine.State.setY_keeps (hnz : m ∈ nzWriters) (v : Byte) : (s.setY v).flag g = s.flag g :=
  State.setNZ_keeps hm { s with y := v } hnz v

theorem Machine.State.compare_keeps (hnz : m ∈ nzWriters) (hc : m ∈ cWriters) (r v : Byte) :
    (s.compare r v).flag g = s.flag g :=
  ((State.setFlag_keeps hm _ (f := .n) hnz _).trans (State.setFlag_keeps hm _ (f := .z) hnz _)).trans
    (State.setFlag_keeps hm s (f := .c) hc _)

theorem Machine.State.addToA_keeps (hnz : m ∈ nzWriters) (hc : m ∈ cWriters) (hv : m ∈ vWriters) (v : Byte) :
    (s.addToA v).flag g = s.flag g :=
  ((State.setFlag_keeps hm _ (f := .v) hv _).trans (State.setFlag_keeps hm _ (f := .c) hc _)).trans
    (State.setNZ_keeps hm { s with a := _ } hnz _)

end

/-! ### The flags through the operations of the forms -/

theorem Machine.ReadOp.flag_apply (op : ReadOp) (m : Byte) (t : State) {g : Flag}
    (h : op.mnemonic ∉ flagWriters g) : (op.apply m t).flag g = t.flag g := by
  cases op
  case lda | and | ora | eor => exact State.setA_keeps h t (by decide) _
  case ldx => exact State.setX_keeps h t (by decide) _
  case ldy => exact State.setY_keeps h t (by decide) _
  case adc | sbc => exact State.addToA_keeps h t (by decide) (by decide) (by decide) _
  case cmp | cpx | cpy => exact State.compare_keeps h t (by decide) (by decide) _ _
  case bit =>
    exact ((State.setFlag_keeps h _ (f := .v) (by decide) _).trans
      (State.setFlag_keeps h _ (f := .n) (by decide) _)).trans (State.setFlag_keeps h t (f := .z) (by decide) _)
  case lax => exact (State.setX_keeps h _ (by decide) _).trans (State.setA_keeps h t (by decide) _)

theorem Machine.ModifyOp.flag_finish (op : ModifyOp) (v r : Byte) (t : State) {g : Flag}
    (h : op.mnemonic ∉ flagWriters g) : (op.finish v r t).flag g = t.flag g := by
  cases op
  case inc | dec => exact State.setNZ_keeps h t (by decide) _
  case asl | lsr | rol | ror =>
    exact (State.setNZ_keeps h _ (by decide) _).trans (State.setFlag_keeps h t (f := .c) (by decide) _)
  case dcp => exact State.compare_keeps h t (by decide) (by decide) _ _
  case isb => exact State.addToA_keeps h t (by decide) (by decide) (by decide) _
  case slo | rla | sre =>
    exact (State.setA_keeps h _ (by decide) _).trans (State.setFlag_keeps h t (f := .c) (by decide) _)
  case rra =>
    exact (State.addToA_keeps h _ (by decide) (by decide) (by decide) _).trans
      (State.setFlag_keeps h t (f := .c) (by decide) _)

/-- A flag is a bit of `P`, so it is kept where `P` is. -/
theorem Machine.State.flag_congr {s t : State} (h : t.p = s.p) (g : Flag) : t.flag g = s.flag g :=
  congrArg (·.getLsbD g.bit) h

theorem Machine.PlainOp.flag_apply (op : PlainOp) (s : State) {g : Flag} (h : op.mnemonic ∉ flagWriters g) :
    (op.apply s).flag g = s.flag g := by
  cases op
  case tax | tsx | inx | dex => exact State.setX_keeps h s (by decide) _
  case tay | iny | dey => exact State.setY_keeps h s (by decide) _
  case txa | tya => exact State.setA_keeps h s (by decide) _
  case txs => rfl
  case rts => exact State.flag_congr s.pullWord_p g
  case pha | php => exact State.flag_congr (s.push_p _) g
  case pla => exact (State.setA_keeps h _ (by decide) _).trans (State.flag_congr s.pull_p g)
  case brk =>
    exact (State.flag_congr (s.takeException_p _ _ _ _) g).trans (State.setFlag_keeps h s (f := .i) (by decide) _)
  case rti | plp => exact absurd (by cases g <;> decide) h
  case clc | sec => exact State.setFlag_keeps h s (f := .c) (by decide) _
  case cld | sed => exact State.setFlag_keeps h s (f := .d) (by decide) _
  case cli | sei => exact State.setFlag_keeps h s (f := .i) (by decide) _
  case clv => exact State.setFlag_keeps h s (f := .v) (by decide) _

/-! ### The flags through a run -/

/-- A flag after a run of a form that is no writer of it. -/
theorem Machine.Form.run_flag (f : Form) {s t : State} (ht : f.run s = .next t) {g : Flag}
    (h : f.mnemonic ∉ flagWriters g) : t.flag g = s.flag g := by
  cases f
  case read base o op => cases ht; exact (op.flag_apply _ _ h).trans (s.flag_readOperand o g)
  case modify base o op => cases ht; exact (op.flag_finish _ _ _ h).trans (by simp)
  case plain base op => cases ht; exact op.flag_apply s h
  case branch op dd => obtain ⟨_, _, rfl⟩ := branch_next ht; rfl
  case stop opcode => cases ht
  case store | storeIndexed | jump | jumpIndirect | call | skip => cases ht; exact State.flag_congr (by simp) g

/-- Settles O51: the layout bit by bit, then each flag by the form of the instruction; `P` is its flags. -/
theorem flagsChangeOnlyByTheirWriters : Obligations.FlagsChangeOnlyByTheirWriters := by
  refine ⟨State.p_toNat, statusByte_toNat, fun i s t ht => ?_⟩
  rw [exec_eq_run] at ht
  rw [mnemonic_eq_form]
  have keep (g : Flag) (hg : (form i).mnemonic ∉ flagWriters g) : t.flag g = s.flag g := (form i).run_flag ht hg
  exact ⟨fun h => ⟨keep .n h, keep .z h⟩, keep .c, keep .v, keep .i, keep .d,
    fun h => State.p_eq_of_flags fun g => keep g fun hg => h (flagWriters_subset g hg)⟩

end Sys2Proof
end

section
/-! The block's other state: no instruction changes it, and the record of the port only grows. -/

namespace Sys2Proof

open Machine

/-- From `s` to `t` the halt mark, the configuration, the bank count, the interrupt inputs and the step mark are
the same, and the record of the peripheral port only grows. -/
structure OnlyPortGrows (s t : State) : Prop where
  halted : t.halted = s.halted
  config : t.config = s.config
  banksLoaded : t.banksLoaded = s.banksLoaded
  nmiPending : t.nmiPending = s.nmiPending
  irqLine : t.irqLine = s.irqLine
  started : t.started = s.started
  periphReads : s.periphReads ≤ t.periphReads
  portCalls : ∃ calls, t.portCalls = s.portCalls ++ calls

/-- A change of the registers, of Storage and of the cycle count alone. -/
theorem OnlyPortGrows.of_registers (s : State) (a x y : Byte) (sp : Word) (p : Byte) (pc : Word) (storage : Memory)
    (cycles : Nat) :
    OnlyPortGrows s { s with a, x, y, sp, p, pc, storage, cycles } :=
  ⟨rfl, rfl, rfl, rfl, rfl, rfl, Nat.le_refl _, [], (List.append_nil _).symm⟩

theorem OnlyPortGrows.refl (s : State) : OnlyPortGrows s s := .of_registers ..

theorem OnlyPortGrows.trans {s t u : State} (h : OnlyPortGrows s t) (k : OnlyPortGrows t u) : OnlyPortGrows s u where
  halted := k.halted.trans h.halted
  config := k.config.trans h.config
  banksLoaded := k.banksLoaded.trans h.banksLoaded
  nmiPending := k.nmiPending.trans h.nmiPending
  irqLine := k.irqLine.trans h.irqLine
  started := k.started.trans h.started
  periphReads := h.periphReads.trans k.periphReads
  portCalls := by
    obtain ⟨cs, hcs⟩ := h.portCalls
    obtain ⟨ds, hds⟩ := k.portCalls
    exact ⟨cs ++ ds, by rw [hds, hcs, List.append_assoc]⟩

/-! ### The bus -/

theorem OnlyPortGrows.read8 (s : State) (a : Word) : OnlyPortGrows s (s.read8 a).2 := by
  rcases s.read8_state a with h | ⟨v, h⟩ <;> rw [h]
  · exact .refl s
  · exact ⟨rfl, rfl, rfl, rfl, rfl, rfl, Nat.le_succ _, _, rfl⟩

theorem OnlyPortGrows.read16 (s : State) (a : Word) : OnlyPortGrows s (s.read16 a).2 := by
  refine (OnlyPortGrows.read8 s a).trans ?_
  show OnlyPortGrows _ ((s.read8 a).2.read16High a).2
  unfold State.read16High
  split
  · exact .read8 _ _
  · exact .refl _

theorem OnlyPortGrows.write8 (s : State) (a : Word) (v : Byte) : OnlyPortGrows s (s.write8 a v) :=
  ⟨by simp, by simp, by simp, by simp, by simp, by simp, by simp, _, s.write8_portCalls a v⟩

/-! ### The stack and the exceptions -/

theorem OnlyPortGrows.push (s : State) (v : Byte) : OnlyPortGrows s (s.push v) :=
  (OnlyPortGrows.write8 s s.sp v).trans (.of_registers ..)

theorem OnlyPortGrows.pull (s : State) : OnlyPortGrows s s.pull.2 :=
  (OnlyPortGrows.of_registers ..).trans (.read8 (s.setSp (lo8 (s.sp + 1))) _)

theorem OnlyPortGrows.pushWord (s : State) (order : PushOrder) (v : Word) : OnlyPortGrows s (s.pushWord order v) := by
  cases order <;> exact (OnlyPortGrows.push s _).trans (.push _ _)

theorem OnlyPortGrows.pullWord (s : State) : OnlyPortGrows s s.pullWord.2 := (OnlyPortGrows.pull s).trans (.pull _)

theorem OnlyPortGrows.takeException (s : State) (ret : Word) (order : PushOrder) (status : Byte) (vector : Word) :
    OnlyPortGrows s (s.takeException ret order status vector) :=
  ((((OnlyPortGrows.pushWord s order ret).trans (.push _ status)).trans (.of_registers ..)).trans
    (.read16 ((((s.pushWord order ret).push status).setFlag .i true)) vector)).trans (.of_registers ..)

theorem OnlyPortGrows.returnFromException (s : State) : OnlyPortGrows s s.returnFromException :=
  (((OnlyPortGrows.pull s).trans (.of_registers ..)).trans (.pullWord (s.pull.2.setP s.pull.1))).trans
    (.of_registers ..)

theorem OnlyPortGrows.indirectTarget (s : State) (ptr : Word) : OnlyPortGrows s (s.indirectTarget ptr).2 := by
  unfold State.indirectTarget
  split
  · exact (OnlyPortGrows.read8 s _).trans (.read8 _ _)
  · exact .read16 s ptr

/-! ### The operations of the forms -/

theorem OnlyPortGrows.readOperand (s : State) (o : Operand) : OnlyPortGrows s (s.readOperand o).2 := by
  cases o
  case accumulator | immediate => exact .refl s
  case memory m => exact .read8 s _

theorem OnlyPortGrows.writeBack (s : State) (o : Operand) (ea : AddrMode → Word) (v : Byte) :
    OnlyPortGrows s (s.writeBack o ea v) := by
  cases o
  case accumulator => exact .of_registers ..
  case immediate => exact .refl s
  case memory m => exact .write8 s _ v

theorem OnlyPortGrows.readOp (op : ReadOp) (m : Byte) (s : State) : OnlyPortGrows s (op.apply m s) := by
  cases op <;> exact .of_registers ..

theorem OnlyPortGrows.modifyOp (op : ModifyOp) (v r : Byte) (s : State) : OnlyPortGrows s (op.finish v r s) := by
  cases op <;> exact .of_registers ..

theorem OnlyPortGrows.plainOp (op : PlainOp) (s : State) : OnlyPortGrows s (op.apply s) := by
  cases op
  case rts => exact (OnlyPortGrows.pullWord s).trans (.of_registers ..)
  case brk => exact .takeException ..
  case rti => exact .returnFromException s
  case pha | php => exact .push ..
  case pla | plp => exact (OnlyPortGrows.pull s).trans (.of_registers ..)
  all_goals exact .of_registers ..

/-! ### A run -/

theorem OnlyPortGrows.run {s t : State} (f : Form) (ht : f.run s = .next t) : OnlyPortGrows s t := by
  cases f
  case read base o op =>
    cases ht
    exact ((OnlyPortGrows.readOperand s o).trans (.readOp op _ _)).trans (.of_registers ..)
  case store | storeIndexed => cases ht; exact (OnlyPortGrows.write8 s _ _).trans (.of_registers ..)
  case modify base o op =>
    cases ht
    exact (((OnlyPortGrows.readOperand s o).trans (.writeBack _ o _ _)).trans (.modifyOp op _ _ _)).trans
      (.of_registers ..)
  case plain base op => cases ht; exact (OnlyPortGrows.plainOp op s).trans (.of_registers ..)
  case branch op dd => obtain ⟨_, _, rfl⟩ := branch_next ht; exact .of_registers ..
  case jump | skip => cases ht; exact .of_registers ..
  case jumpIndirect ptr => cases ht; exact (OnlyPortGrows.indirectTarget s ptr).trans (.of_registers ..)
  case call addr => cases ht; exact (OnlyPortGrows.pushWord s _ _).trans (.of_registers ..)
  case stop opcode => cases ht

/-- Settles O52: what a run of any form does to the block is what its bus accesses do. -/
theorem noInstructionTouchesTheBlocksOtherState : Obligations.NoInstructionTouchesTheBlocksOtherState := by
  intro i s t ht
  rw [exec_eq_run] at ht
  have h := OnlyPortGrows.run (form i) ht
  exact ⟨h.halted, h.config, h.banksLoaded, h.nmiPending, h.irqLine, h.started, h.periphReads, h.portCalls⟩

end Sys2Proof
end

section
/-! The address translation and the bus: reads, writes and word reads at every address. -/

namespace Sys2Proof

open Machine

/-! ### Translation -/

/-- Translating twice changes nothing more: a canonical address is its own translation (R43). -/
theorem Machine.translate_idem (a : Word) : translate (translate a) = translate a := by
  apply BitVec.eq_of_toNat_eq
  rw [translate_toNat (translate a), translate_toNat a]
  split_ifs <;> omega

/-- Settles O19: the arithmetic of the ranges, and its idempotence. -/
theorem translationMirrorsTheRanges : Obligations.TranslationMirrorsTheRanges :=
  fun a => ⟨translate_toNat a, translate_idem a⟩

/-- The RAM mirror of an address below 0x2000 has the same translation (R43). -/
theorem Machine.translate_ram_mirror (a : Word) (h : a.toNat ≤ 0x1FFF) :
    translate (a &&& 0x07FF#16) = translate a := by
  have ram : translate a = a &&& 0x07FF#16 := if_pos (BitVec.le_def.2 h)
  rw [← ram, translate_idem]

/-- A window address translates to the register its low three bits name (R43, R50). -/
theorem Machine.translate_window (a : Word) (hlo : 0x2000 ≤ a.toNat) (hhi : a.toNat ≤ 0x3FFF) :
    translate a = BitVec.ofNat 16 (0x2000 + a.toNat % 8) := by
  apply BitVec.eq_of_toNat_eq
  rw [translate_toNat, BitVec.toNat_ofNat]
  split_ifs <;> omega

/-! ### The bus sees an address through its translation alone -/

theorem Machine.State.read8_eq_of_translate_eq (s : State) {a b : Word} (h : translate a = translate b) :
    s.read8 a = s.read8 b := by
  rw [State.read8, State.read8, h]

theorem Machine.State.write8_eq_of_translate_eq (s : State) (v : Byte) {a b : Word}
    (h : translate a = translate b) : s.write8 a v = s.write8 b v := by
  rw [State.write8, State.write8, h]

/-! ### Reads -/

/-- An index that no write or load has listed reads as its `INIT_MEM` byte (R37, log entry 1). -/
theorem Machine.State.byteAt_of_unlisted (s : State) (k : Nat) (h : s.storage.lookup k = none) :
    s.byteAt k = Config.freeInitMem k := by
  rw [State.byteAt, h, Option.getD_none]

/-- A read right after a write of the same Storage index outside `PERIPH` gives the byte written. -/
theorem Machine.State.read8_write8 (s : State) (v : Byte) {a b : Word} (hb : translate b = translate a)
    (h : isPeriph (translate a) = false) : (s.write8 b v).read8 a = (v, s.write8 b v) := by
  rw [State.read8_of_not_periph _ _ h, ← hb, State.byteAt_write8_same]

/-- Settles O20: a read goes by the translated address, and outside `PERIPH` it is one Storage byte. -/
theorem readsOutsidePeriphHaveNoEffect : Obligations.ReadsOutsidePeriphHaveNoEffect := by
  refine fun s a => ⟨fun h => s.read8_eq_of_translate_eq (translate_ram_mirror a h).symm, fun h => ?_⟩
  have read := s.read8_of_not_periph a h
  refine ⟨read, fun unlisted => ?_, fun b v hb => s.read8_write8 v hb h⟩
  rw [read, State.byteAt_of_unlisted s _ unlisted]

/-- The shim answers in debug mode at `STATUS_SHIM_ADDR` (R45, log entry 23). -/
theorem Machine.State.shimmed_iff (s : State) (t : Word) :
    s.shimmed t = true ↔ s.config.resetMode = .debug ∧ t = s.config.statusShimAddr := by
  simp [State.shimmed]

/-- A `PERIPH` read that the shim does not answer is one `PeripheralRead` (R45, R51). -/
theorem Machine.State.read8_delegated (s : State) (a : Word) (h : isPeriph (translate a) = true)
    (hs : ¬(s.config.resetMode = .debug ∧ translate a = s.config.statusShimAddr)) :
    s.read8 a = s.peripheralRead (translate a) :=
  s.read8_of_periph a h (Bool.eq_false_iff.2 fun hshim => hs ((s.shimmed_iff _).1 hshim))

/-- Settles O21, by whether the shim answers. -/
theorem peripheralReadsAreDelegated : Obligations.PeripheralReadsAreDelegated :=
  ⟨isPeriph_iff, fun s a h =>
    ⟨fun hs => s.read8_of_shimmed a h ((s.shimmed_iff _).2 hs), s.read8_delegated a h⟩⟩

/-- The high byte of `read16` is the Storage byte one above the translated address (R47). -/
theorem Machine.State.read16High_untranslated (s : State) (a : Word) (h : s.config.read16Retranslate = false) :
    s.read16High a = (s.byteAt (((translate a).toNat + 1) % 0x10000), s) := by
  rw [State.read16High, h, if_neg Bool.false_ne_true, BitVec.toNat_add]
  rfl

/-- With `READ16_RETRANSLATE` it is a read of the next address. -/
theorem Machine.State.read16High_retranslated (s : State) (a : Word) (h : s.config.read16Retranslate = true) :
    s.read16High a = s.read8 (a + 1) := by
  rw [State.read16High, h, if_pos rfl]

/-- Settles O24: the two bytes of `read16`, by `READ16_RETRANSLATE`. -/
theorem wordReadsTakeTheHighByteUntranslated : Obligations.WordReadsTakeTheHighByteUntranslated := by
  refine fun s a => ⟨fun h => ?_, fun h => ?_⟩ <;> rw [← s.read8_config a] at h
  · simp only [State.read16, State.read16High_untranslated _ a h]
  · simp only [State.read16, State.read16High_retranslated _ a h]

/-! ### Writes -/

/-- Settles O22: the byte, the other bytes, the sink call, and every other field. -/
theorem writesUpdateStorageAndCallTheSinkOnce : Obligations.WritesUpdateStorageAndCallTheSinkOnce :=
  fun s a v => ⟨s.byteAt_write8_same a v, s.byteAt_write8_other a v, s.write8_portCalls a v,
    s.write8_banksLoaded a v, s.write8_periphReads a v, by simp [Claims.SameOutsideMemory]⟩

/-- Settles O23: the address and its canonical offset have one translation, which is that offset. -/
theorem windowMirrorsCallTheSameRegister : Obligations.WindowMirrorsCallTheSameRegister := by
  intro s a v hlo hhi
  have canonical := translate_window a hlo hhi
  have periph : isPeriph (translate a) = true := (isPeriph_iff _).2 (.inl (by
    rw [canonical, BitVec.toNat_ofNat]; omega))
  constructor
  · rw [← canonical]
    exact s.write8_eq_of_translate_eq v (translate_idem a).symm
  · rw [State.write8_portCalls, periph, canonical]
    rfl

/-- Settles O25: the fetch is a read at `PC`, which the write has not moved. -/
theorem storesAreSeenByTheNextFetch : Obligations.StoresAreSeenByTheNextFetch := by
  intro s a v hpc h
  have read : ({ s.write8 a v with pc := s.pc + 1 } : State).read8 s.pc = (v, { s.write8 a v with pc := s.pc + 1 }) := by
    rw [State.read8_of_not_periph _ _ (hpc ▸ h), hpc]
    exact congrArg (·, _) (s.byteAt_write8_same a v)
  simp only [Claims.streamBytes, State.write8_pc, read]

end Sys2Proof
end

section
/-! Loading program banks: what the call does to Storage, when it is refused, and the invariant through the
calls of the host interface. -/

namespace Sys2Proof

open Machine

/-! ### One bank -/

/-- The state with a bank copied in at an offset, and one more bank counted (R56, R40(c)). -/
def Machine.State.withBank (s : State) (o : Word) (bank : ProgramBank) : State :=
  { s with storage := s.storage.writeBytes o.toNat bank.toList, banksLoaded := s.banksLoaded + 1 }

/-- The two offsets a bank may be loaded at (R58). -/
abbrev IsBankOffset (o : Word) : Prop := o = 0x8000#16 ∨ o = 0xC000#16

/-- A bank at either offset ends inside Storage. -/
theorem IsBankOffset.end_le {o : Word} (h : IsBankOffset o) : o.toNat + 0x4000 ≤ 0x10000 := by
  rcases h with rfl | rfl <;> decide

theorem Machine.loadBank_accepted (s : State) (o : Word) (bank : ProgramBank) (hs : s.started = false)
    (hb : s.banksLoaded < 2) (ho : IsBankOffset o) : loadBank o bank s = .next (s.withBank o bank) := by
  rw [loadBank, if_neg (Bool.eq_false_iff.1 hs), if_neg (Nat.not_le.2 hb), if_pos ho]
  rfl

theorem Machine.loadBank_started (s : State) (o : Word) (bank : ProgramBank) (hs : s.started = true) :
    loadBank o bank s = .refused .bankLoadAfterStart := by
  rw [loadBank, if_pos hs]

theorem Machine.loadBank_third (s : State) (o : Word) (bank : ProgramBank) (hs : s.started = false)
    (hb : 2 ≤ s.banksLoaded) : loadBank o bank s = .refused .thirdBankLoad := by
  rw [loadBank, if_neg (Bool.eq_false_iff.1 hs), if_pos hb]

theorem Machine.loadBank_other_offset (s : State) (o : Word) (bank : ProgramBank) (hs : s.started = false)
    (hb : s.banksLoaded < 2) (ho : ¬ IsBankOffset o) : loadBank o bank s = .refused (.bankOffset o) := by
  rw [loadBank, if_neg (Bool.eq_false_iff.1 hs), if_neg (Nat.not_le.2 hb), if_neg ho]

/-- A bank load that completes was at one of the two offsets with at most one bank before it, and its state is the
one with the bank. -/
theorem Machine.loadBank_next {s t : State} {o : Word} {bank : ProgramBank} (h : loadBank o bank s = .next t) :
    IsBankOffset o ∧ s.banksLoaded < 2 ∧ t = s.withBank o bank := by
  cases hs : s.started with
  | true => rw [loadBank_started s o bank hs] at h; cases h
  | false =>
    rcases Nat.lt_or_ge s.banksLoaded 2 with hb | hb
    · by_cases ho : IsBankOffset o
      · rw [loadBank_accepted s o bank hs hb ho] at h
        cases h
        exact ⟨ho, hb, rfl⟩
      · rw [loadBank_other_offset s o bank hs hb ho] at h; cases h
    · rw [loadBank_third s o bank hs hb] at h; cases h

/-! ### The bytes of a loaded bank -/

theorem Machine.State.byteAt_withBank (s : State) (o : Word) (bank : ProgramBank) (i : Nat) (h : i < 0x4000) :
    (s.withBank o bank).byteAt (o.toNat + i) = bank[i] := by
  simp [State.withBank, State.byteAt, Memory.lookup_writeBytes, h]

theorem Machine.State.byteAt_withBank_outside (s : State) (o : Word) (bank : ProgramBank) (k : Nat)
    (h : k < o.toNat ∨ o.toNat + 0x4000 ≤ k) : (s.withBank o bank).byteAt k = s.byteAt k := by
  rw [State.byteAt, State.byteAt, State.withBank, Memory.lookup_writeBytes]
  split
  · rw [List.getElem?_eq_none (by rw [Vector.length_toList]; omega), Option.none_or]
  · rfl

/-- Settles O16: the state left is the one with the bank, byte by byte. -/
theorem loadBankCopiesVerbatim : Obligations.LoadBankCopiesVerbatim := by
  intro o bank s t h
  obtain ⟨ho, -, rfl⟩ := loadBank_next h
  exact ⟨ho, s.byteAt_withBank o bank, s.byteAt_withBank_outside o bank, rfl, rfl, rfl,
    rfl, rfl, rfl, rfl, rfl, rfl, rfl, rfl, rfl, rfl, rfl, rfl⟩

/-! ### A cartridge -/

/-- A cartridge load is the load of the first bank and then of the second, or of the first again (R57). -/
theorem Machine.loadCartridge_of_first {s s₁ : State} {first : ProgramBank} (second : Option ProgramBank)
    (h : loadBank 0x8000#16 first s = .next s₁) :
    loadCartridge first second s = loadBank 0xC000#16 (second.getD first) s₁ := by
  rw [loadCartridge, h]

theorem Machine.loadCartridge_next {s t : State} {first : ProgramBank} {second : Option ProgramBank}
    (h : loadCartridge first second s = .next t) :
    ∃ s₁, loadBank 0x8000#16 first s = .next s₁ ∧ loadBank 0xC000#16 (second.getD first) s₁ = .next t := by
  cases h₁ : loadBank 0x8000#16 first s with
  | next s₁ => exact ⟨s₁, rfl, loadCartridge_of_first second h₁ ▸ h⟩
  | fault r => rw [loadCartridge, h₁] at h; cases h
  | refused r => rw [loadCartridge, h₁] at h; cases h

/-- A write to the first bank's range stays there: addresses from 0x4000 up are canonical (R44). -/
theorem Machine.State.byteAt_second_bank_write8 (s : State) (a : Word) (v : Byte) (i : Nat) (hlo : 0x8000 ≤ a.toNat)
    (hhi : a.toNat < 0xC000) : (s.write8 a v).byteAt (0xC000 + i) = s.byteAt (0xC000 + i) := by
  apply State.byteAt_write8_other
  rw [translate_toNat]
  split_ifs <;> omega

/-- Settles O18: the two loads are accepted in order, and neither the second one nor a write to the range of the
first bank touches the other bank. -/
theorem cartridgeBanksAreLoaded : Obligations.CartridgeBanksAreLoaded := by
  intro first second s hs hb
  have load₁ := loadBank_accepted s 0x8000#16 first hs (by omega) (.inl rfl)
  have load₂ := loadBank_accepted (s.withBank 0x8000#16 first) 0xC000#16 (second.getD first) hs
    (show s.banksLoaded + 1 < 2 by omega) (.inr rfl)
  have bytes₂ := (s.withBank 0x8000#16 first).byteAt_withBank 0xC000#16 (second.getD first)
  refine ⟨_, (loadCartridge_of_first second load₁).trans load₂, fun i h => ⟨?_, bytes₂ i h⟩, ?_⟩
  · rw [State.byteAt_withBank_outside _ _ _ _ (.inl (show 0x8000 + i < 0xC000 by omega))]
    exact s.byteAt_withBank 0x8000#16 first i h
  · intro a v i hlo hhi h
    rw [State.byteAt_second_bank_write8 _ a v i hlo hhi]
    exact bytes₂ i h

/-! ### The step mark -/

theorem Machine.exec_started {i : Instr} {s t : State} (h : exec i s = .next t) : t.started = s.started :=
  (OnlyPortGrows.run (form i) (exec_eq_run i s ▸ h)).started

theorem Machine.State.takeInterrupt_started (s : State) (k : Interrupt) : (s.takeInterrupt k).started = s.started := by
  cases k <;> exact State.takeException_started ..

/-- After a step that answers, a step has been called (R58). -/
theorem Machine.step_started {s t : State} (h : step s = .next t) : t.started = true := by
  rcases step_cases s with hs | ⟨k, hs⟩ | hs <;> rw [hs] at h
  · cases h
  · cases h; exact s.beginStep.takeInterrupt_started k
  · exact (exec_started h).trans s.beginStep.fetchInstr_started

/-- So too in the state a step's fatal fault leaves. -/
theorem Machine.step_fault_started {s left : State} {op : Byte} {a : Word}
    (h : step s = .fault (.unmappedOpcode op a left)) : left.started = true := by
  rcases step_cases s with hs | ⟨k, hs⟩ | hs <;> rw [hs] at h
  · cases h
  · cases h
  · rw [exec_eq_run] at h
    obtain ⟨_, -, hr⟩ := Form.run_fault _ _ _ h
    cases hr
    exact s.beginStep.fetchInstr_started

/-- Settles O17: the outcome of the call by the step mark, the count and the offset, and the mark after a step. -/
theorem loadBankRefusals : Obligations.LoadBankRefusals := by
  refine fun o bank s => ⟨fun hs hb ho => ⟨_, loadBank_accepted s o bank hs hb ho⟩, loadBank_third s o bank, ?_,
    loadBank_started s o bank, fun t h => loadBank_started t o bank (step_started h),
    fun _ _ left h => loadBank_started left o bank (step_fault_started h)⟩
  exact fun hs hb h8 hC => loadBank_other_offset s o bank hs hb (not_or.2 ⟨h8, hC⟩)

/-! ### The invariant through the host's calls -/

theorem MachineInv.withBank {s : State} (h : MachineInv s) {o : Word} (bank : ProgramBank) (ho : IsBankOffset o)
    (hb : s.banksLoaded < 2) : MachineInv (s.withBank o bank) where
  storage_wf := Memory.wf_writeBytes _ _ _ h.storage_wf (by simpa using ho.end_le)
  sp_in_page_one := h.sp_in_page_one
  unused_reads_one := h.unused_reads_one
  break_stored_zero := h.break_stored_zero
  banks_at_most_two := hb

theorem MachineInv.loadBank {s t : State} (h : MachineInv s) {o : Word} {bank : ProgramBank}
    (ht : Machine.loadBank o bank s = .next t) : MachineInv t := by
  obtain ⟨ho, hb, rfl⟩ := loadBank_next ht
  exact h.withBank bank ho hb

theorem MachineInv.loadCartridge {s t : State} (h : MachineInv s) {first : ProgramBank} {second : Option ProgramBank}
    (ht : Machine.loadCartridge first second s = .next t) : MachineInv t := by
  obtain ⟨s₁, load₁, load₂⟩ := loadCartridge_next ht
  exact (h.loadBank load₁).loadBank load₂

/-- The registers `reset()` loads meet the invariant, whatever they were. -/
theorem MachineInv.resetRegisters {s : State} (h : MachineInv s) : MachineInv s.resetRegisters where
  storage_wf := h.storage_wf
  sp_in_page_one := by simp only [State.resetRegisters]; decide
  unused_reads_one := by simp only [State.resetRegisters, State.flag]; decide
  break_stored_zero := by simp only [State.resetRegisters, State.flag]; decide
  banks_at_most_two := h.banks_at_most_two

theorem MachineInv.applyReset {s : State} (h : MachineInv s) : MachineInv s.applyReset := by
  unfold State.applyReset
  split
  · exact (h.resetRegisters.read16 _).withPc _
  · exact h.resetRegisters.withPc _

theorem MachineInv.resetBlock {s t : State} (h : MachineInv s) (ht : Machine.resetBlock s = .next t) :
    MachineInv t := by
  unfold Machine.resetBlock at ht
  split at ht
  · cases ht
  · cases ht; exact h.applyReset

theorem MachineInv.assertNmi {s : State} (h : MachineInv s) : MachineInv s.assertNmi := by
  unfold State.assertNmi
  split
  · exact h.congr rfl rfl rfl rfl
  · exact h

theorem MachineInv.setIrq {s : State} (h : MachineInv s) (level : Bool) : MachineInv (s.setIrq level) := by
  unfold State.setIrq
  split
  · exact h.congr rfl rfl rfl rfl
  · exact h

/-- Settles O13, call by call. -/
theorem hostCallsKeepTheInvariant : Obligations.HostCallsKeepTheInvariant :=
  fun _ h => ⟨fun _ _ _ ht => h.loadBank ht, fun _ _ _ ht => h.loadCartridge ht, fun _ ht => h.resetBlock ht,
    h.assertNmi, h.setIrq⟩

end Sys2Proof
end

section
/-! Every Storage byte an instruction leaves as it was: what a push, a store and a write back write, then the run
of a form. -/

namespace Sys2Proof

open Machine

/-! ### The stack slots -/

/-- The low byte of a difference is the difference of the low bytes. -/
theorem lo8_sub (v w : Word) : lo8 (v - w) = lo8 v - lo8 w := by
  apply BitVec.eq_of_toNat_eq
  have hw := w.isLt
  simp only [lo8_toNat, BitVec.toNat_sub]
  omega

/-- Two down from `SP` in page 1 is where the third push stores (R32). -/
theorem setSp_pred_pred (v : Word) : lo8 ((0x0100#16 ||| zext16 (lo8 (v - 1))) - 1) = lo8 (v - 2) := by
  rw [lo8_sub, lo8_setSp, lo8_sub, lo8_sub v 2, sub_sub]
  rfl

/-- The slots of the first three pushes, by the operation that writes `SP`. -/
theorem pushAddresses_eq (s : State) (n : Nat) :
    Claims.pushAddresses s n =
      [s.sp, 0x0100#16 ||| zext16 (lo8 (s.sp - 1)), 0x0100#16 ||| zext16 (lo8 (s.sp - 2))].take n := by
  simp only [Claims.pushAddresses, Claims.pageOne, setSp_eq_word]

section
variable {s : State} {k : Nat}

theorem Machine.State.byteAt_push_other (s : State) (v : Byte) (h : k ≠ (translate s.sp).toNat) :
    (s.push v).byteAt k = s.byteAt k := by
  rw [State.byteAt_congr (s.push v) (s.write8 s.sp v) (by simp), State.byteAt_write8_other _ _ _ _ h]

theorem Machine.State.byteAt_pushWord_other (order : PushOrder) (v : Word)
    (h : ∀ a ∈ Claims.pushAddresses s 2, k ≠ (translate a).toNat) :
    (s.pushWord order v).byteAt k = s.byteAt k := by
  simp only [pushAddresses_eq, List.take, List.forall_mem_cons] at h
  obtain ⟨first, second, -⟩ := h
  cases order <;>
    rw [State.pushWord, State.byteAt_push_other _ _ (by rwa [State.push_sp]), State.byteAt_push_other _ _ first]

theorem Machine.State.pushWord_sp (s : State) (order : PushOrder) (v : Word) :
    (s.pushWord order v).sp = 0x0100#16 ||| zext16 (lo8 (s.sp - 2)) := by
  rw [← setSp_pred_pred]
  cases order <;> rfl

/-- Taking an exception stores the return address and the status byte, and reads the vector (R149). -/
theorem Machine.State.byteAt_takeException_other (ret : Word) (order : PushOrder) (status : Byte) (vector : Word)
    (h : ∀ a ∈ Claims.pushAddresses s 3, k ≠ (translate a).toNat) :
    (s.takeException ret order status vector).byteAt k = s.byteAt k := by
  have third : k ≠ (translate (0x0100#16 ||| zext16 (lo8 (s.sp - 2)))).toNat := h _ (by simp [pushAddresses_eq])
  have storage : (s.takeException ret order status vector).storage = ((s.pushWord order ret).push status).storage := by
    simp [State.takeException]
  rw [State.byteAt_congr _ _ storage, State.byteAt_push_other _ _ (by rwa [State.pushWord_sp]),
    State.byteAt_pushWord_other order ret fun a ha => h a (List.take_subset_take_left _ (by decide) ha)]

end

/-! ### The addresses a form stores to -/

/-- How many bytes an implied instruction pushes. -/
def Machine.PlainOp.pushes : PlainOp → Nat
  | .pha | .php => 1
  | .brk => 3
  | _ => 0

/-- The addresses a form stores to (R32, R48). -/
def Machine.Form.storedAddresses (f : Form) (s : State) : List Word :=
  match f with
  | .store _ m _ | .storeIndexed _ _ m => [s.effectiveAddress m]
  | .modify _ o _ => (o.addrMode.map s.effectiveAddress).toList
  | .plain _ op => Claims.pushAddresses s op.pushes
  | .call _ => Claims.pushAddresses s 2
  | .read .. | .branch .. | .jump _ | .jumpIndirect _ | .skip .. | .stop _ => []

theorem storedAddresses_eq_form (i : Instr) (s : State) :
    Claims.storedAddresses i s = (form i).storedAddresses s := by
  cases i <;> rfl

/-! ### A byte through a run -/

section
variable {s t : State} {k : Nat}

theorem Machine.State.byteAt_writeBack_other (o : Operand) (ea : AddrMode → Word) (v : Byte)
    (h : ∀ a ∈ (o.addrMode.map ea).toList, k ≠ (translate a).toNat) :
    (s.writeBack o ea v).byteAt k = s.byteAt k := by
  cases o with
  | accumulator | immediate => rfl
  | memory m => exact s.byteAt_write8_other _ v k (h _ (by simp [Operand.addrMode]))

theorem Machine.PlainOp.byteAt_apply_other (op : PlainOp)
    (h : ∀ a ∈ Claims.pushAddresses s op.pushes, k ≠ (translate a).toNat) : (op.apply s).byteAt k = s.byteAt k := by
  cases op
  case pha | php => exact s.byteAt_push_other _ (h s.sp List.mem_cons_self)
  case brk => exact State.byteAt_takeException_other _ _ _ _ h
  all_goals exact State.byteAt_congr _ _ (by simp [PlainOp.apply]) k

theorem Machine.Form.run_byteAt_other (f : Form) (ht : f.run s = .next t)
    (h : ∀ a ∈ f.storedAddresses s, k ≠ (translate a).toNat) : t.byteAt k = s.byteAt k := by
  cases f
  case store | storeIndexed => cases ht; exact s.byteAt_write8_other _ _ k (h _ List.mem_cons_self)
  case modify base o op =>
    cases ht
    refine (State.byteAt_congr _ _ (op.finish_storage _ _ _) k).trans ?_
    exact (State.byteAt_writeBack_other o _ _ h).trans (s.byteAt_readOperand o k)
  case plain base op => cases ht; exact op.byteAt_apply_other h
  case call addr => cases ht; exact State.byteAt_pushWord_other .highFirst (s.pc - 1) h
  case branch op dd => obtain ⟨_, _, rfl⟩ := branch_next ht; rfl
  case stop opcode => cases ht
  case read | jump | jumpIndirect | skip => cases ht; exact State.byteAt_congr _ _ (by simp) k

end

/-- Settles O49: the addresses are those of the instruction's form, and a run of the form writes nowhere else. -/
theorem everyOtherByteIsUnchanged : Obligations.EveryOtherByteIsUnchanged := by
  intro i s t ht k hk
  rw [exec_eq_run] at ht
  rw [storedAddresses_eq_form] at hk
  exact (form i).run_byteAt_other ht hk

end Sys2Proof
end

section
/-! A read-modify-write of a peripheral register, at the port. -/

namespace Sys2Proof

open Machine

theorem Machine.ReadOp.mnemonic_not_modify (op : ReadOp) : op.mnemonic ∉ Claims.modifyMnemonics := by
  cases op <;> decide

theorem Machine.StoreOp.mnemonic_not_modify (op : StoreOp) : op.mnemonic ∉ Claims.modifyMnemonics := by
  cases op <;> decide

theorem Machine.PlainOp.mnemonic_not_modify (op : PlainOp) : op.mnemonic ∉ Claims.modifyMnemonics := by
  cases op <;> decide

theorem Machine.BranchOp.mnemonic_not_modify (op : BranchOp) : op.mnemonic ∉ Claims.modifyMnemonics := by
  cases op <;> decide

/-- The read-modify-writes are the forms that modify an operand (R203). -/
theorem Machine.Form.eq_modify_of_mnemonic (f : Form) (h : f.mnemonic ∈ Claims.modifyMnemonics) :
    ∃ base o op, f = .modify base o op := by
  cases f
  case modify base o op => exact ⟨base, o, op, rfl⟩
  case read base o op => exact absurd h op.mnemonic_not_modify
  case store base m op => exact absurd h op.mnemonic_not_modify
  case plain base op => exact absurd h op.mnemonic_not_modify
  case branch op dd => exact absurd h op.mnemonic_not_modify
  case storeIndexed | jump | jumpIndirect | call | skip | stop => simp [Form.mnemonic, Claims.modifyMnemonics] at h

theorem Machine.Operand.addrMode_eq_some {o : Operand} {m : AddrMode} (h : o.addrMode = some m) : o = .memory m := by
  cases o
  case memory => cases h; rfl
  all_goals cases h

/-- The port calls of a read-modify-write of memory: those of its one read, then of its one write (R60). -/
theorem Machine.modify_portCalls (base : Nat) (m : AddrMode) (op : ModifyOp) (s : State) :
    ∃ t r, (Form.modify base (.memory m) op).run s = .next t ∧
      t.portCalls = ((s.read8 (s.effectiveAddress m)).2.write8 (s.effectiveAddress m) r).portCalls :=
  ⟨_, _, rfl, op.finish_portCalls _ _ _⟩

/-- Settles O53: one `PeripheralRead` and one sink call, since the read is delegated and the write is at the same
canonical offset. -/
theorem readModifyWriteTouchesThePortTwice : Obligations.ReadModifyWriteTouchesThePortTwice := by
  intro i m s hi hm hp hs
  rw [mnemonic_eq_form] at hi
  rw [addrMode_eq_form] at hm
  obtain ⟨base, o, op, hf⟩ := (form i).eq_modify_of_mnemonic hi
  rw [hf] at hm
  obtain rfl := Operand.addrMode_eq_some hm
  obtain ⟨t, r, ht, calls⟩ := modify_portCalls base m op s
  refine ⟨t, (s.peripheralRead (Machine.translate (s.effectiveAddress m))).1, r, by rw [exec_eq_run, hf, ht], ?_⟩
  rw [calls, State.write8_portCalls, State.read8_delegated s _ hp hs, hp, if_pos rfl]
  exact List.append_assoc ..

end Sys2Proof
end

section
/-! The encoding: the decoder and the encoder undo each other, and which opcode bytes have no handler. -/

namespace Sys2Proof

open Machine

/-- What decodes is an opcode byte, the operand bytes its table entry takes, and the bytes left over (R67). -/
theorem decode_inversion {bytes rest : List Byte} {i : Instr} (h : decode bytes = .ok i rest) :
    ∃ op,
      (handler op = .unmapped ∧ bytes = op :: rest ∧ i = .unmapped op) ∨
      (handler op = .implied i ∧ bytes = op :: rest) ∨
      (∃ f b, handler op = .oneByte f ∧ bytes = op :: b :: rest ∧ i = f b) ∨
      ∃ f v, handler op = .twoBytes f ∧ bytes = op :: lo8 v :: hi8 v :: rest ∧ i = f v := by
  obtain - | ⟨op, operands⟩ := bytes
  · cases h
  refine ⟨op, ?_⟩
  cases entry : handler op <;> simp only [decode, entry] at h
  case unmapped => cases h; simp
  case implied => cases h; simp
  case oneByte f =>
    obtain - | ⟨b, operands⟩ := operands <;> cases h
    exact .inr (.inr (.inl ⟨f, b, rfl, rfl, rfl⟩))
  case twoBytes f =>
    obtain - | ⟨ll, - | ⟨hh, operands⟩⟩ := operands <;> cases h
    exact .inr (.inr (.inr ⟨f, word hh ll, rfl, by rw [lo8_word, hi8_word], rfl⟩))

/-- The bytes without a handler are those an `unmapped` instruction may carry (R72). -/
theorem handler_eq_unmapped_iff (op : Byte) : handler op = .unmapped ↔ (Instr.unmapped op).wellFormed = true := by
  refine ⟨fun entry => ?_, handler_unmapped op⟩
  have agrees := encoder_agrees op
  simp only [EncoderAgrees, entry] at agrees
  exact agrees.2

theorem hasHandler_iff (op : Byte) : hasHandler op = true ↔ handler op ≠ .unmapped := by
  unfold hasHandler
  cases handler op <;> simp

/-- Settles O2: each constructor by the shape of its table entry: no operand byte, one, and two for what is left. -/
theorem decodeEncodeRoundTrip : Obligations.DecodeEncodeRoundTrip := by
  intro i rest wf
  cases i
  case unmapped op => exact decode_unmapped op rest (handler_unmapped op wf)
  case brk | php | aslAcc | clc | nop1A | plp | rolAcc | sec | nop3A | rti | pha | lsrAcc | cli | nop5A | rts | pla |
      rorAcc | sei | nop7A | dey | txa | tya | txs | tay | tax | clv | tsx | iny | dex | cld | nopDA | inx | nop | sed
      | nopFA =>
    exact decode_implied _ _ _ rfl
  case oraIndX | sloIndX | nop04 | oraZp | aslZp | sloZp | oraImm | bpl | oraIndY | sloIndY | nop14 | oraZpX | aslZpX
      | sloZpX | andIndX | rlaIndX | bitZp | andZp | rolZp | rlaZp | andImm | bmi | andIndY | rlaIndY | nop34 | andZpX
      | rolZpX | rlaZpX | eorIndX | sreIndX | nop44 | eorZp | lsrZp | sreZp | eorImm | bvc | eorIndY | sreIndY | nop54
      | eorZpX | lsrZpX | sreZpX | adcIndX | rraIndX | nop64 | adcZp | rorZp | rraZp | adcImm | bvs | adcIndY |
      rraIndY | nop74 | adcZpX | rorZpX | rraZpX | nop80 | staIndX | nop82 | saxIndX | styZp | staZp | stxZp | saxZp |
      nop89 | bcc | staIndY | styZpX | staZpX | stxZpY | saxZpY | ldyImm | ldaIndX | ldxImm | laxIndX | ldyZp | ldaZp
      | ldxZp | laxZp | ldaImm | bcs | ldaIndY | laxIndY | ldyZpX | ldaZpX | ldxZpY | laxZpY | cpyImm | cmpIndX |
      nopC2 | dcpIndX | cpyZp | cmpZp | decZp | dcpZp | cmpImm | bne | cmpIndY | dcpIndY | nopD4 | cmpZpX | decZpX |
      dcpZpX | cpxImm | sbcIndX | nopE2 | isbIndX | cpxZp | sbcZp | incZp | isbZp | sbcImm | sbcEB | beq | sbcIndY |
      isbIndY | nopF4 | sbcZpX | incZpX | isbZpX =>
    exact decode_oneByte _ _ _ _ rfl
  all_goals exact decode_twoBytes _ _ _ _ rfl

/-- Settles O3: the table entry a decoding goes through agrees with the encoder. -/
theorem decodedBytesAreTheEncoding : Obligations.DecodedBytesAreTheEncoding := by
  intro bytes rest i h
  obtain ⟨op, shape⟩ := decode_inversion h
  have agrees := encoder_agrees op
  obtain ⟨entry, rfl, rfl⟩ | ⟨entry, rfl⟩ | ⟨f, b, entry, rfl, rfl⟩ | ⟨f, v, entry, rfl, rfl⟩ := shape <;>
    simp only [EncoderAgrees, entry] at agrees
  · exact ⟨congrArg (· ++ rest) agrees.1, agrees.2⟩
  · exact ⟨congrArg (· ++ rest) agrees.1, agrees.2⟩
  · exact ⟨congrArg (· ++ rest) (agrees b).1, (agrees b).2⟩
  · exact ⟨congrArg (· ++ rest) (agrees v).1, (agrees v).2⟩

/-- Settles O1: each word by its row of the table, and a byte has no handler iff `unmapped` may carry it. -/
theorem writtenWordsDecode : Obligations.WrittenWordsDecode := by
  refine ⟨rfl, rfl, rfl, rfl, rfl, rfl, rfl, rfl, rfl, fun op => ?_, rfl⟩
  rw [Bool.eq_iff_iff, hasHandler_iff, Ne, handler_eq_unmapped_iff, Instr.wellFormed, Bool.not_eq_true,
    Bool.not_eq_true']

end Sys2Proof
end

section
/-! One fetched step: the bytes of the instruction stream, the instruction they decode to, its count and its trace
event. -/

namespace Sys2Proof

open Machine

/-! ### The instruction stream -/

/-- The bytes of the instruction stream are those the model fetches (R75). -/
theorem streamBytes_eq_fetchBytes (n : Nat) (s : State) : Claims.streamBytes n s = s.fetchBytes n := by
  induction n generalizing s with
  | zero => rfl
  | succ n ih => rw [Claims.streamBytes, State.fetchBytes_succ, ih]

theorem begun_eq_beginStep (s : State) : Claims.begun s = s.beginStep := rfl

theorem Machine.State.fetchBytes_succ_head (n : Nat) (s : State) :
    (s.fetchBytes (n + 1)).1 = s.fetch8.1 :: (s.fetch8.2.fetchBytes n).1 := rfl

/-- Bytes that decode with none left over are an opcode and the operand bytes it takes (R67). -/
theorem decode_length {op : Byte} {operands : List Byte} {i : Instr} (h : decode (op :: operands) = .ok i []) :
    operands.length = operandCount op := by
  obtain ⟨op', shape⟩ := decode_inversion h
  obtain ⟨entry, bytes, -⟩ | ⟨entry, bytes⟩ | ⟨f, b, entry, bytes, -⟩ | ⟨f, v, entry, bytes, -⟩ := shape <;>
    cases bytes <;> simp [operandCount, entry]

/-! ### Fetching an instruction -/

/-- `MAPPED_SET` is the opcodes with a handler, less those the configuration takes out (R66, log entry 6). -/
theorem Machine.inMappedSet_iff (c : Config) (op : Byte) :
    inMappedSet c op = true ↔ handler op ≠ .unmapped ∧ c.removed.contains op = false := by
  rw [inMappedSet, Bool.and_eq_true, hasHandler_iff, Bool.not_eq_true']

/-- Fetching an opcode not taken out of `MAPPED_SET`: it and as many bytes as it takes, and their decoding; none
more where it has no handler (R76, R77). -/
theorem Machine.State.fetchInstr_of_kept (s : State) (kept : s.config.removed.contains s.fetch8.1 = false) :
    s.fetchInstr =
      let stream := s.fetchBytes (operandCount s.fetch8.1 + 1)
      { bytes := stream.1, instr := instrOf s.fetch8.1 stream.1, after := stream.2 } := by
  by_cases entry : handler s.fetch8.1 = .unmapped
  · have unmapped : inMappedSet s.config s.fetch8.1 = false := by simp [← Bool.not_eq_true, inMappedSet_iff, entry]
    have none_taken : operandCount s.fetch8.1 = 0 := by simp only [operandCount, entry]
    have instr : instrOf s.fetch8.1 [s.fetch8.1] = .unmapped s.fetch8.1 :=
      instrOf_eq _ _ [] _ (decode_unmapped _ [] entry)
    rw [s.fetchInstr_of_unmapped unmapped, none_taken, ← instr]
    rfl
  · exact s.fetchInstr_of_mapped ((inMappedSet_iff _ _).2 ⟨entry, kept⟩)

/-- A fetch takes exactly the stream bytes that decode with none left over, and gives what they decode to. -/
theorem Machine.State.fetchInstr_of_decode {s : State} {n : Nat} {i : Instr}
    (h : decode (s.fetchBytes n).1 = .ok i []) (kept : s.config.removed.contains s.fetch8.1 = false) :
    s.fetchInstr = { bytes := (s.fetchBytes n).1, instr := i, after := (s.fetchBytes n).2 } := by
  cases n with
  | zero => cases h
  | succ n =>
    have taken : n = operandCount s.fetch8.1 := by simpa using decode_length h
    rw [s.fetchInstr_of_kept kept, ← taken]
    simp only [instrOf_eq _ _ _ _ h]

/-! ### The step -/

/-- A fetched step runs what the stream bytes decode to, at the state their fetches leave. -/
theorem Machine.step_of_decode {s : State} {n : Nat} {i : Instr} (hf : Claims.Fetches s)
    (h : decode (s.beginStep.fetchBytes n).1 = .ok i [])
    (kept : s.config.removed.contains s.beginStep.fetch8.1 = false) :
    step s = exec i (s.beginStep.fetchBytes n).2 := by
  obtain ⟨running, quiet⟩ := hf
  rw [step_of_fetch s running quiet, State.fetchInstr_of_decode h kept]

/-- Settles O5: the stream is what the model fetches, so the step is the run of what it decodes to. -/
theorem stepFetchesThroughTheBus : Obligations.StepFetchesThroughTheBus := by
  intro s n i hf
  simp only [streamBytes_eq_fetchBytes, begun_eq_beginStep]
  intro h kept
  cases n with
  | zero => cases h
  | succ n => exact step_of_decode hf h (kept _ (by rw [State.fetchBytes_succ_head]; rfl))

/-- Settles O4: the bytes at `PC` are the stream, and decode to the instruction they encode. -/
theorem stepRunsTheDecodedInstruction : Obligations.StepRunsTheDecodedInstruction := by
  intro s i hf wf code kept
  have stream := (streamBytes_eq_fetchBytes _ _).trans (State.fetchBytes_of_code (encode i) (Claims.begun s) code)
  have h := stepFetchesThroughTheBus s (encode i).length i hf
  rw [stream] at h
  exact h (by simpa using decodeEncodeRoundTrip i [] wf) kept

/-- A fetched opcode outside `MAPPED_SET` is a fault, so a step that answers fetched one that is not taken out (R76). -/
theorem Machine.kept_of_step_next {s t : State} (hf : Claims.Fetches s) (ht : step s = .next t) :
    s.config.removed.contains s.beginStep.fetch8.1 = false := by
  obtain ⟨running, quiet⟩ := hf
  cases mapped : inMappedSet s.beginStep.config s.beginStep.fetch8.1 with
  | true => exact ((inMappedSet_iff _ _).1 mapped).2
  | false =>
    rw [step_of_fetch s running quiet, State.fetchInstr_of_unmapped _ mapped] at ht
    cases ht

/-! ### The count -/

/-- A run returns at least the base count of its form (R79, R103, R203). -/
theorem Machine.Form.base_le_cycles (f : Form) {s t : State} (ht : f.run s = .next t) : f.base ≤ t.cycles := by
  cases f
  case read | skip => cases ht; exact Nat.le_add_right _ _
  case store | modify | plain | jump | jumpIndirect | call => cases ht; exact Nat.le_refl _
  case storeIndexed base penaltyBase m =>
    cases ht
    show min base penaltyBase ≤ if s.config.storePagePenalty then penaltyBase + s.pagePenalty m else base
    split <;> omega
  case branch op dd =>
    cases ht
    cases op.taken s
    · exact Nat.le_refl _
    · exact Nat.le_trans (Nat.le_add_right 2 1) (Nat.le_add_right _ _)
  case stop opcode => cases ht

theorem eq_unmapped_of_mnemonic {i : Instr} (h : i.mnemonic = .unmapped) : ∃ op, i = .unmapped op := by
  cases i
  case unmapped op => exact ⟨op, rfl⟩
  all_goals cases h

theorem Machine.two_le_cycles_of_exec {i : Instr} {s t : State} (ht : exec i s = .next t) : 2 ≤ t.cycles := by
  have mapped : i.mnemonic ≠ .unmapped := by
    intro h
    obtain ⟨op, rfl⟩ := eq_unmapped_of_mnemonic h
    cases ht
  exact (two_le_base i mapped).trans ((form i).base_le_cycles (exec_eq_run i s ▸ ht))

/-- Settles O9: the count is at least the base of the form, and outside the control transfers a run leaves `PC`
where the fetches left it, past the encoding of the instruction. -/
theorem everyMappedStepTakesTwoCyclesAndAdvances : Obligations.EveryMappedStepTakesTwoCyclesAndAdvances := by
  refine fun s t hf ht => ⟨?_, fun n i h off => ?_⟩
  · obtain ⟨running, quiet⟩ := hf
    rw [step_of_fetch s running quiet] at ht
    exact two_le_cycles_of_exec ht
  · rw [streamBytes_eq_fetchBytes, begun_eq_beginStep] at h
    obtain ⟨encoding, -⟩ := decodedBytesAreTheEncoding _ _ _ h
    have length : (encode i).length = n := by
      rw [← s.beginStep.fetchBytes_length n, ← encoding, List.append_nil]
    rw [step_of_decode hf h (kept_of_step_next hf ht), exec_eq_run] at ht
    rw [mnemonic_eq_form] at off
    rw [(form i).run_pc ht off, State.fetchBytes_pc, length]
    rfl

/-! ### The trace event -/

/-- Settles O60: the event of a fetched step that answers is made of the bytes of its fetch and its next state. -/
theorem traceEventReportsTheStep : Obligations.TraceEventReportsTheStep := by
  refine ⟨fun s t n i hf h ht => ?_, fun s r hr => by simp only [State.traceEvent, hr]⟩
  rw [streamBytes_eq_fetchBytes, begun_eq_beginStep] at h ⊢
  have bytes := congrArg Fetched.bytes (State.fetchInstr_of_decode h (kept_of_step_next hf ht))
  cases n with
  | zero => cases h
  | succ n =>
    simp only [State.fetchBytes_succ_head] at bytes ⊢
    obtain ⟨-, quiet⟩ := hf
    simp only [State.traceEvent, ht, quiet, bytes]
    exact ⟨_, rfl, rfl, rfl, rfl, rfl, rfl, rfl, rfl, rfl⟩

end Sys2Proof
end

section
/-! The effective addresses as arithmetic, and when an index crosses a page. -/

namespace Sys2Proof

open Machine

@[simp] theorem zext16_toNat (b : Byte) : (zext16 b).toNat = b.toNat := by
  have := b.isLt
  simp only [zext16, BitVec.toNat_setWidth]
  omega

theorem zext16_add_toNat (nn index : Byte) : (zext16 (nn + index)).toNat = (nn.toNat + index.toNat) % 256 := by
  rw [zext16_toNat, BitVec.toNat_add]

theorem add_zext16_toNat (addr : Word) (index : Byte) :
    (addr + zext16 index).toNat = (addr.toNat + index.toNat) % 65536 := by
  rw [BitVec.toNat_add, zext16_toNat]

/-- The low byte of an address plus an index overflows (R93, R94). -/
theorem low_byte_carry_iff (addr : Word) (index : Byte) :
    decide (0xFF < (lo8 addr).toNat + index.toNat) = true ↔ 255 < addr.toNat % 256 + index.toNat := by
  rw [decide_eq_true_iff, lo8_toNat]

/-- Settles O28, mode by mode: page 0 wraps modulo 256, absolute addresses modulo 65536. -/
theorem directAddressesWrapAsTheirModesSay : Obligations.DirectAddressesWrapAsTheirModesSay :=
  fun s nn addr => ⟨zext16_toNat nn, zext16_add_toNat nn s.x, zext16_add_toNat nn s.y, rfl,
    add_zext16_toNat addr s.x, add_zext16_toNat addr s.y, low_byte_carry_iff addr s.x, low_byte_carry_iff addr s.y,
    rfl, rfl, rfl, rfl⟩

/-- A pointer in page 0 is the word of the Storage byte at it and the one after it in page 0 (R95, R96). -/
theorem Machine.State.zeroPagePointer_toNat (s : State) (p : Byte) :
    (s.zeroPagePointer p).toNat = 256 * (s.byteAt ((p.toNat + 1) % 256)).toNat + (s.byteAt p.toNat).toNat := by
  rw [State.zeroPagePointer, State.zeroPageByte_eq, State.zeroPageByte_eq, word_toNat, Nat.mul_comm]
  rfl

/-- Settles O29: the pointers as words of page 0, whose bytes are read with no effect. -/
theorem indirectPointersStayInPageZero : Obligations.IndirectPointersStayInPageZero := by
  intro s nn
  refine ⟨s.zeroPagePointer_toNat (nn + s.x), rfl, ?_, ?_, s.read8_zext16⟩
  · rw [State.effectiveAddress, add_zext16_toNat, s.zeroPagePointer_toNat]
  · rw [State.crossed, State.zeroPageByte_eq, decide_eq_true_iff]

end Sys2Proof
end

section
/-! The rows of the loads, the stores and the transfers. A row is read off the encoder and the form of its
instruction; what is left of it is one equation for each operation. -/

namespace Sys2Proof

open Machine Claims

/-! ### A row from the form of its instruction -/

/-- A row from the encoder (O2) and the run of the form. -/
theorem row_of_form {bytes : List Byte} {i : Instr} {post : State → State} (wf : i.wellFormed = true)
    (code : encode i = bytes) (run : ∀ s, (form i).run s = .next (post s)) : Row bytes i post := by
  refine ⟨?_, fun s => (exec_eq_run i s).trans (run s)⟩
  simpa [code] using decodeEncodeRoundTrip i [] wf

/-- The row of an instruction that reads its operand once, by what its operation does to the byte read. -/
theorem readRow_of_form {opcode : Byte} {i : Instr} {o : Operand} {base : Nat} {op : ReadOp}
    {result : Byte → State → State} (apply : ∀ m t, op.apply m t = result m t) (wf : i.wellFormed = true)
    (code : encode i = opcode :: operandBytes o) (hf : form i = .read base o op) :
    ReadRow opcode i o base result := by
  obtain rfl : op.apply = result := funext₂ apply
  refine row_of_form wf code fun s => ?_
  rw [hf]
  cases o with
  | accumulator => rfl
  | immediate nn => exact readInstr_immediate base nn op.apply s
  | memory m => exact readInstr_memory base m op.apply s

/-- The row of a store with a fixed count. -/
theorem storeRow_of_form (op : StoreOp) {opcode : Byte} {i : Instr} {m : AddrMode} {base : Nat}
    (wf : i.wellFormed = true) (code : encode i = opcode :: modeBytes m) (hf : form i = .store base m op) :
    StoreRow opcode i m (fun _ => base) op.value :=
  row_of_form wf code fun s => hf ▸ storeInstr_eq base m (op.value s) s

/-- The count of an indexed STA is that of the penalty's two cases (R103, R203). -/
theorem staIndexedCycles_eq (base penaltyBase : Nat) (m : AddrMode) (s : State) :
    staIndexedCycles base penaltyBase m s =
      if s.config.storePagePenalty then penaltyBase + s.pagePenalty m else base := by
  rw [staIndexedCycles, ← State.operandPenalty_memory]
  rfl

/-- The row of an indexed STA. -/
theorem storeRow_of_storeIndexed {opcode : Byte} {i : Instr} {m : AddrMode} {base penaltyBase : Nat}
    (wf : i.wellFormed = true) (code : encode i = opcode :: modeBytes m)
    (hf : form i = .storeIndexed base penaltyBase m) :
    StoreRow opcode i m (staIndexedCycles base penaltyBase m) State.a := by
  refine row_of_form wf code fun s => ?_
  rw [hf, staIndexedCycles_eq]
  exact storeInstr_eq _ m s.a s

/-- The row of an implied instruction, by what its operation does to the state. -/
theorem plainRow_of_form {opcode : Byte} {i : Instr} {base : Nat} {op : PlainOp} {result : State → State}
    (apply : ∀ s, op.apply s = result s) (wf : i.wellFormed = true) (code : encode i = [opcode])
    (hf : form i = .plain base op) : Row [opcode] i fun s => { result s with cycles := base } := by
  obtain rfl : op.apply = result := funext apply
  exact row_of_form wf code fun s => hf ▸ rfl

/-! ### Loading a register -/

/-- `SetA` in the spec's terms: the byte, and `N` and `Z` from it (R9). -/
theorem Machine.State.setA_eq_putA (s : State) (v : Byte) : s.setA v = putA v s :=
  State.setNZ_eq { s with a := v } v

theorem Machine.State.setX_eq_putX (s : State) (v : Byte) : s.setX v = putX v s :=
  State.setNZ_eq { s with x := v } v

theorem Machine.State.setY_eq_putY (s : State) (v : Byte) : s.setY v = putY v s :=
  State.setNZ_eq { s with y := v } v

/-! ### The rows -/

/-- Settles O30: each row by its mode and base count, and one load for each register. -/
theorem loadsSetTheRegisterAndFlags : Obligations.LoadsSetTheRegisterAndFlags := by
  have lda (m : Byte) (t : State) : ReadOp.lda.apply m t = putA m t := t.setA_eq_putA m
  have ldx (m : Byte) (t : State) : ReadOp.ldx.apply m t = putX m t := t.setX_eq_putX m
  have ldy (m : Byte) (t : State) : ReadOp.ldy.apply m t = putY m t := t.setY_eq_putY m
  exact fun _ _ => ⟨
    readRow_of_form lda rfl rfl rfl, readRow_of_form lda rfl rfl rfl, readRow_of_form lda rfl rfl rfl,
    readRow_of_form lda rfl rfl rfl, readRow_of_form lda rfl rfl rfl, readRow_of_form lda rfl rfl rfl,
    readRow_of_form lda rfl rfl rfl, readRow_of_form lda rfl rfl rfl,
    readRow_of_form ldx rfl rfl rfl, readRow_of_form ldx rfl rfl rfl, readRow_of_form ldx rfl rfl rfl,
    readRow_of_form ldx rfl rfl rfl, readRow_of_form ldx rfl rfl rfl,
    readRow_of_form ldy rfl rfl rfl, readRow_of_form ldy rfl rfl rfl, readRow_of_form ldy rfl rfl rfl,
    readRow_of_form ldy rfl rfl rfl, readRow_of_form ldy rfl rfl rfl⟩

/-- Settles O31: each row by its mode and count; the three indexed STA rows have the count of the page penalty. -/
theorem storesWriteTheRegisterAtTheEffectiveAddress : Obligations.StoresWriteTheRegisterAtTheEffectiveAddress :=
  fun _ _ => ⟨
    storeRow_of_form .sta rfl rfl rfl, storeRow_of_form .sta rfl rfl rfl, storeRow_of_form .sta rfl rfl rfl,
    storeRow_of_storeIndexed rfl rfl rfl, storeRow_of_form .sta rfl rfl rfl,
    storeRow_of_storeIndexed rfl rfl rfl, storeRow_of_storeIndexed rfl rfl rfl,
    storeRow_of_form .stx rfl rfl rfl, storeRow_of_form .stx rfl rfl rfl, storeRow_of_form .stx rfl rfl rfl,
    storeRow_of_form .sty rfl rfl rfl, storeRow_of_form .sty rfl rfl rfl, storeRow_of_form .sty rfl rfl rfl,
    storeRow_of_form .sax rfl rfl rfl, storeRow_of_form .sax rfl rfl rfl, storeRow_of_form .sax rfl rfl rfl,
    storeRow_of_form .sax rfl rfl rfl⟩

/-- Settles O32: each transfer sets its register, TXS through the one write of `SP`. -/
theorem transfersMoveAByteAndSetFlags : Obligations.TransfersMoveAByteAndSetFlags := by
  have txs (s : State) : PlainOp.txs.apply s = { s with sp := word 0x01#8 s.x } :=
    congrArg (fun sp => { s with sp := sp }) (setSp_eq_word s.x)
  exact ⟨plainRow_of_form (op := .tax) (fun s => s.setX_eq_putX s.a) rfl rfl rfl,
    plainRow_of_form (op := .tay) (fun s => s.setY_eq_putY s.a) rfl rfl rfl,
    plainRow_of_form (op := .tsx) (fun s => s.setX_eq_putX (lo8 s.sp)) rfl rfl rfl,
    plainRow_of_form (op := .txa) (fun s => s.setA_eq_putA s.x) rfl rfl rfl,
    plainRow_of_form txs rfl rfl rfl,
    plainRow_of_form (op := .tya) (fun s => s.setA_eq_putA s.y) rfl rfl rfl⟩

end Sys2Proof
end

section
/-! The byte operations of the family as arithmetic on integers: the adder, its inverse law, its overflow, and the
shifts and steps. -/

namespace Sys2Proof

open Machine Claims

/-! ### Bytes of integers -/

/-- A byte is an integer taken modulo 256. -/
theorem eq_ofInt_iff (b : Byte) (x : Int) : b = BitVec.ofInt 8 x ↔ (b.toNat : Int) = x % 256 := by
  rw [← BitVec.toNat_inj, BitVec.toNat_ofInt]
  omega

theorem sub_eq_ofInt (r m : Byte) : r - m = BitVec.ofInt 8 (r.toNat - m.toNat) := by
  have hm := m.isLt
  rw [eq_ofInt_iff, BitVec.toNat_sub]
  omega

/-- Bit 7 of a byte. -/
theorem byte_msb (v : Byte) : v.msb = decide (128 ≤ v.toNat) := v.msb_eq_decide

/-- Bit 0 of a byte. -/
theorem byte_getLsbD_zero (v : Byte) : v.getLsbD 0 = (v.toNat % 2 == 1) := by
  rw [BitVec.getLsbD, Nat.testBit_zero]
  rfl

/-! ### The adder -/

theorem Machine.add8_value_toNat (a b : Byte) (c : Bool) :
    (add8 a b c).value.toNat = (a.toNat + b.toNat + c.toNat) % 256 := rfl

theorem Machine.add8_carry (a b : Byte) (c : Bool) :
    (add8 a b c).carry = decide (255 < a.toNat + b.toNat + c.toNat) := rfl

/-- The adder with the complement of the operand subtracts, with the borrow `1 - C` (R115). -/
theorem Machine.add8_not_value (a m : Byte) (c : Bool) :
    (add8 a (~~~m) c).value = BitVec.ofInt 8 (a.toNat - m.toNat - (1 - c.toNat : Nat)) := by
  have hm := m.isLt
  have hc := c.toNat_le
  rw [eq_ofInt_iff, add8_value_toNat, BitVec.toNat_not]
  omega

/-- The carry of a subtraction is "no borrow" (R115). -/
theorem Machine.add8_not_carry (a m : Byte) (c : Bool) :
    (add8 a (~~~m) c).carry = decide (m.toNat + (1 - c.toNat) ≤ a.toNat) := by
  have hm := m.isLt
  have hc := c.toNat_le
  rw [add8_carry, BitVec.toNat_not, decide_eq_decide]
  omega

/-- Subtracting what was added leaves `a` plus the two carries minus 1 (R135). -/
theorem Machine.add8_not_add8_value (a b : Byte) (c k : Bool) :
    (add8 (add8 a b c).value (~~~b) k).value = BitVec.ofInt 8 (a.toNat + c.toNat + k.toNat - 1) := by
  have hk := k.toNat_le
  rw [add8_not_value, eq_ofInt_iff, BitVec.toNat_ofInt, add8_value_toNat]
  omega

/-- So it restores `a` exactly when the two carries add to 1 (R135). -/
theorem Machine.add8_not_add8_eq_iff (a b : Byte) (c k : Bool) :
    (add8 (add8 a b c).value (~~~b) k).value = a ↔ c.toNat + k.toNat = 1 := by
  have ha := a.isLt
  have hc := c.toNat_le
  have hk := k.toNat_le
  rw [add8_not_add8_value, eq_comm, eq_ofInt_iff]
  omega

/-- Settles O55: the sum of the two carries decides what the subtraction leaves. -/
theorem subtractUndoesAdd : Obligations.SubtractUndoesAdd :=
  fun a b c k => ⟨add8_not_add8_value a b c k, (add8_not_add8_eq_iff a b c (!c)).2 (by cases c <;> rfl),
    add8_not_add8_eq_iff a b c (add8 a b c).carry⟩

/-- Overflow by signs: the operands have one sign, and the result the other (R28). -/
theorem Machine.add8_overflow_iff (a b : Byte) (c : Bool) :
    (add8 a b c).overflow = true ↔ a.msb = b.msb ∧ a.msb ≠ (add8 a b c).value.msb := by
  have signs : ∀ x y z : Bool, (!(x ^^ y) && (x ^^ z)) = true ↔ x = y ∧ x ≠ z := by decide
  rw [add8_overflow, BitVec.msb_and, BitVec.msb_not, BitVec.msb_xor, BitVec.msb_xor]
  exact signs ..

/-- Settles O56: the signs of the operands and of the result, as the ranges their bytes lie in. -/
theorem overflowIsSignedOverflow : Obligations.OverflowIsSignedOverflow := by
  intro a b c
  have ha := a.isLt
  have hb := b.isLt
  have hc := c.toNat_le
  rw [add8_overflow_iff, byte_msb, byte_msb, byte_msb, Ne, decide_eq_decide, decide_eq_decide, add8_value_toNat,
    BitVec.toInt_eq_toNat_cond, BitVec.toInt_eq_toNat_cond]
  split_ifs <;> omega

/-! ### Steps, shifts and rotates -/

theorem add_one_eq_incremented (v : Byte) (c : Bool) : v + 1 = incremented v c := by
  rw [incremented, BitVec.ofNat_add, BitVec.ofNat_toNat, BitVec.setWidth_eq]
  rfl

theorem sub_one_eq_decremented (v : Byte) (c : Bool) : v - 1 = decremented v c := sub_eq_ofInt v 1

theorem shiftLeft_eq_shiftedLeft (v : Byte) (c : Bool) : shiftLeft v = shiftedLeft v c := by
  apply BitVec.eq_of_toNat_eq
  rw [shiftLeft, shiftedLeft, BitVec.toNat_shiftLeft, BitVec.toNat_ofNat, Nat.shiftLeft_eq, Nat.mul_comm]

theorem shiftRight_eq_shiftedRight (v : Byte) (c : Bool) : shiftRight v = shiftedRight v c := by
  have hv := v.isLt
  apply BitVec.eq_of_toNat_eq
  rw [shiftRight, shiftedRight, BitVec.toNat_ushiftRight, BitVec.toNat_ofNat, Nat.shiftRight_eq_div_pow]
  omega

/-- The carry goes to bit 0, which the shift has cleared. -/
theorem rotateLeft_eq_rotatedLeft : ∀ (v : Byte) (c : Bool), rotateLeft v c = rotatedLeft v c := by decide

/-- The carry goes to bit 7, which the shift has cleared. -/
theorem rotateRight_eq_rotatedRight : ∀ (v : Byte) (c : Bool), rotateRight v c = rotatedRight v c := by decide

end Sys2Proof
end

section
/-! The rows of the arithmetic and logic instructions. Each is read off its form, as those of the loads are; what is
left is one equation for each operation. -/

namespace Sys2Proof

open Machine Claims

/-! ### The row of a read-modify-write -/

/-- The row of a read-modify-write of memory, by its new byte and by what follows the write. -/
theorem modifyRow_of_form {opcode : Byte} {i : Instr} {m : AddrMode} {base : Nat} {op : ModifyOp}
    {new : Byte → Bool → Byte} {result : Byte → Byte → State → State}
    (compute : ∀ v t, op.compute v t = new v (t.flag .c)) (finish : ∀ v r t, op.finish v r t = result v r t)
    (wf : i.wellFormed = true) (code : encode i = opcode :: modeBytes m)
    (hf : form i = .modify base (.memory m) op) : ModifyRow opcode i m base new result := by
  refine row_of_form wf code fun s => ?_
  rw [hf, Form.run, modifyInstr_memory]
  simp only [compute, finish, State.flag_read8]

/-- The row of a read-modify-write of the accumulator. -/
theorem accumulatorModifyRow_of_form {opcode : Byte} {i : Instr} {base : Nat} {op : ModifyOp}
    {new : Byte → Bool → Byte} {result : Byte → Byte → State → State}
    (compute : ∀ v t, op.compute v t = new v (t.flag .c)) (finish : ∀ v r t, op.finish v r t = result v r t)
    (wf : i.wellFormed = true) (code : encode i = [opcode])
    (hf : form i = .modify base .accumulator op) : AccumulatorModifyRow opcode i base new result := by
  refine row_of_form wf code fun s => ?_
  rw [hf, Form.run, modifyInstr_accumulator]
  simp only [compute, finish]

/-! ### The operations, in the spec's terms -/

theorem Machine.State.addToA_eq_adcResult (t : State) (m : Byte) : t.addToA m = adcResult m t := by
  simp only [State.addToA_eq, add8_overflow]
  rfl

/-- SBC is the addition of the complement (R115). -/
theorem Machine.State.addToA_not_eq_sbcResult (t : State) (m : Byte) : t.addToA (~~~m) = sbcResult m t := by
  simp only [State.addToA_eq, add8_overflow, add8_not_carry, add8_not_value]
  rfl

theorem Machine.State.compare_eq_compareP (t : State) (r m : Byte) :
    t.compare r m = { t with p := compareP r m t } := by
  rw [State.compare_eq, sub_eq_ofInt]
  rfl

theorem Machine.ReadOp.bit_apply (m : Byte) (t : State) : ReadOp.bit.apply m t = bitResult m t := by
  have sign : m.msb = m.getLsbD 7 := rfl
  rw [ReadOp.apply, State.setFlag_eq _ .v, sign]
  simp [State.flag_setFlag, bitResult]

/-- `N` and `Z` from the new byte after a write of `C`. -/
theorem Machine.State.setFlag_c_setNZ (t : State) (c : Bool) (r : Byte) :
    (t.setFlag .c c).setNZ r = { t with p := nzc r c t } := by
  rw [State.setNZ_eq]
  simp [State.flag_setFlag, nzc]

theorem Machine.State.setNZ_eq_stepFlags (t : State) (v r : Byte) : t.setNZ r = stepFlags v r t := t.setNZ_eq r

/-- ASL and ROL shift bit 7 into `C` (R129, R131). -/
theorem Machine.State.setFlag_c_setNZ_eq_leftFlags (t : State) (v r : Byte) :
    (t.setFlag .c v.msb).setNZ r = leftFlags v r t := by
  rw [State.setFlag_c_setNZ, byte_msb, leftFlags]

/-- LSR and ROR shift bit 0 into `C` (R130, R132). -/
theorem Machine.State.setFlag_c_setNZ_eq_rightFlags (t : State) (v r : Byte) :
    (t.setFlag .c (v.getLsbD 0)).setNZ r = rightFlags v r t := by
  rw [State.setFlag_c_setNZ, byte_getLsbD_zero, rightFlags]

/-! ### The rows -/

/-- Settles O33: each row by its mode and base count, one sum for ADC and one difference for SBC. -/
theorem addAndSubtractWithCarry : Obligations.AddAndSubtractWithCarry := by
  have adc (m : Byte) (t : State) : ReadOp.adc.apply m t = adcResult m t := t.addToA_eq_adcResult m
  have sbc (m : Byte) (t : State) : ReadOp.sbc.apply m t = sbcResult m t := t.addToA_not_eq_sbcResult m
  exact fun _ _ => ⟨
    readRow_of_form adc rfl rfl rfl, readRow_of_form adc rfl rfl rfl, readRow_of_form adc rfl rfl rfl,
    readRow_of_form adc rfl rfl rfl, readRow_of_form adc rfl rfl rfl, readRow_of_form adc rfl rfl rfl,
    readRow_of_form adc rfl rfl rfl, readRow_of_form adc rfl rfl rfl,
    readRow_of_form sbc rfl rfl rfl, readRow_of_form sbc rfl rfl rfl, readRow_of_form sbc rfl rfl rfl,
    readRow_of_form sbc rfl rfl rfl, readRow_of_form sbc rfl rfl rfl, readRow_of_form sbc rfl rfl rfl,
    readRow_of_form sbc rfl rfl rfl, readRow_of_form sbc rfl rfl rfl, readRow_of_form sbc rfl rfl rfl⟩

/-- Settles O34: AND, ORA and EOR load `A` with their result, and BIT writes `P` alone. -/
theorem logicAndBitTest : Obligations.LogicAndBitTest := by
  have and (m : Byte) (t : State) : ReadOp.and.apply m t = putA (t.a &&& m) t := t.setA_eq_putA _
  have ora (m : Byte) (t : State) : ReadOp.ora.apply m t = putA (t.a ||| m) t := t.setA_eq_putA _
  have eor (m : Byte) (t : State) : ReadOp.eor.apply m t = putA (t.a ^^^ m) t := t.setA_eq_putA _
  exact fun _ _ => ⟨
    readRow_of_form and rfl rfl rfl, readRow_of_form and rfl rfl rfl, readRow_of_form and rfl rfl rfl,
    readRow_of_form and rfl rfl rfl, readRow_of_form and rfl rfl rfl, readRow_of_form and rfl rfl rfl,
    readRow_of_form and rfl rfl rfl, readRow_of_form and rfl rfl rfl,
    readRow_of_form ora rfl rfl rfl, readRow_of_form ora rfl rfl rfl, readRow_of_form ora rfl rfl rfl,
    readRow_of_form ora rfl rfl rfl, readRow_of_form ora rfl rfl rfl, readRow_of_form ora rfl rfl rfl,
    readRow_of_form ora rfl rfl rfl, readRow_of_form ora rfl rfl rfl,
    readRow_of_form eor rfl rfl rfl, readRow_of_form eor rfl rfl rfl, readRow_of_form eor rfl rfl rfl,
    readRow_of_form eor rfl rfl rfl, readRow_of_form eor rfl rfl rfl, readRow_of_form eor rfl rfl rfl,
    readRow_of_form eor rfl rfl rfl, readRow_of_form eor rfl rfl rfl,
    readRow_of_form ReadOp.bit_apply rfl rfl rfl, readRow_of_form ReadOp.bit_apply rfl rfl rfl⟩

/-- Settles O35: one comparison, of `A`, `X` or `Y`. -/
theorem compareSetsCarryZeroSign : Obligations.CompareSetsCarryZeroSign := by
  have cmp (m : Byte) (t : State) : ReadOp.cmp.apply m t = compareA m t := t.compare_eq_compareP t.a m
  have cpx (m : Byte) (t : State) : ReadOp.cpx.apply m t = compareX m t := t.compare_eq_compareP t.x m
  have cpy (m : Byte) (t : State) : ReadOp.cpy.apply m t = compareY m t := t.compare_eq_compareP t.y m
  exact fun _ _ => ⟨
    readRow_of_form cmp rfl rfl rfl, readRow_of_form cmp rfl rfl rfl, readRow_of_form cmp rfl rfl rfl,
    readRow_of_form cmp rfl rfl rfl, readRow_of_form cmp rfl rfl rfl, readRow_of_form cmp rfl rfl rfl,
    readRow_of_form cmp rfl rfl rfl, readRow_of_form cmp rfl rfl rfl,
    readRow_of_form cpx rfl rfl rfl, readRow_of_form cpx rfl rfl rfl, readRow_of_form cpx rfl rfl rfl,
    readRow_of_form cpy rfl rfl rfl, readRow_of_form cpy rfl rfl rfl, readRow_of_form cpy rfl rfl rfl⟩

/-- Settles O36: the byte one higher or lower, with `N` and `Z` from it. -/
theorem memoryIncrementAndDecrement : Obligations.MemoryIncrementAndDecrement := by
  have inc (v : Byte) (t : State) : ModifyOp.inc.compute v t = incremented v (t.flag .c) := add_one_eq_incremented v _
  have dec (v : Byte) (t : State) : ModifyOp.dec.compute v t = decremented v (t.flag .c) := sub_one_eq_decremented v _
  have flags (v r : Byte) (t : State) : t.setNZ r = stepFlags v r t := t.setNZ_eq_stepFlags v r
  exact fun _ _ => ⟨
    modifyRow_of_form inc flags rfl rfl rfl, modifyRow_of_form inc flags rfl rfl rfl,
    modifyRow_of_form inc flags rfl rfl rfl, modifyRow_of_form inc flags rfl rfl rfl,
    modifyRow_of_form dec flags rfl rfl rfl, modifyRow_of_form dec flags rfl rfl rfl,
    modifyRow_of_form dec flags rfl rfl rfl, modifyRow_of_form dec flags rfl rfl rfl⟩

/-- Settles O37: each sets its register to the wrapped byte. -/
theorem registerIncrementAndDecrement : Obligations.RegisterIncrementAndDecrement := by
  have up (v : Byte) : v + 1 = BitVec.ofNat 8 (v.toNat + 1) := add_one_eq_incremented v false
  have down (v : Byte) : v - 1 = BitVec.ofInt 8 (v.toNat - 1) := sub_one_eq_decremented v false
  exact ⟨plainRow_of_form (op := .inx) (fun s => up s.x ▸ s.setX_eq_putX (s.x + 1)) rfl rfl rfl,
    plainRow_of_form (op := .iny) (fun s => up s.y ▸ s.setY_eq_putY (s.y + 1)) rfl rfl rfl,
    plainRow_of_form (op := .dex) (fun s => down s.x ▸ s.setX_eq_putX (s.x - 1)) rfl rfl rfl,
    plainRow_of_form (op := .dey) (fun s => down s.y ▸ s.setY_eq_putY (s.y - 1)) rfl rfl rfl⟩

/-- Settles O38: a new byte for each mnemonic, and the flags of its direction. -/
theorem shiftsAndRotates : Obligations.ShiftsAndRotates := by
  have asl (v : Byte) (t : State) : ModifyOp.asl.compute v t = shiftedLeft v (t.flag .c) :=
    shiftLeft_eq_shiftedLeft v _
  have lsr (v : Byte) (t : State) : ModifyOp.lsr.compute v t = shiftedRight v (t.flag .c) :=
    shiftRight_eq_shiftedRight v _
  have rol (v : Byte) (t : State) : ModifyOp.rol.compute v t = rotatedLeft v (t.flag .c) :=
    rotateLeft_eq_rotatedLeft v _
  have ror (v : Byte) (t : State) : ModifyOp.ror.compute v t = rotatedRight v (t.flag .c) :=
    rotateRight_eq_rotatedRight v _
  have left (v r : Byte) (t : State) : (t.setFlag .c v.msb).setNZ r = leftFlags v r t :=
    t.setFlag_c_setNZ_eq_leftFlags v r
  have right (v r : Byte) (t : State) : (t.setFlag .c (v.getLsbD 0)).setNZ r = rightFlags v r t :=
    t.setFlag_c_setNZ_eq_rightFlags v r
  exact fun _ _ => ⟨
    modifyRow_of_form asl left rfl rfl rfl, accumulatorModifyRow_of_form asl left rfl rfl rfl,
    modifyRow_of_form asl left rfl rfl rfl, modifyRow_of_form asl left rfl rfl rfl,
    modifyRow_of_form asl left rfl rfl rfl,
    modifyRow_of_form lsr right rfl rfl rfl, accumulatorModifyRow_of_form lsr right rfl rfl rfl,
    modifyRow_of_form lsr right rfl rfl rfl, modifyRow_of_form lsr right rfl rfl rfl,
    modifyRow_of_form lsr right rfl rfl rfl,
    modifyRow_of_form rol left rfl rfl rfl, accumulatorModifyRow_of_form rol left rfl rfl rfl,
    modifyRow_of_form rol left rfl rfl rfl, modifyRow_of_form rol left rfl rfl rfl,
    modifyRow_of_form rol left rfl rfl rfl,
    modifyRow_of_form ror right rfl rfl rfl, accumulatorModifyRow_of_form ror right rfl rfl rfl,
    modifyRow_of_form ror right rfl rfl rfl, modifyRow_of_form ror right rfl rfl rfl,
    modifyRow_of_form ror right rfl rfl rfl⟩

end Sys2Proof
end

section
/-! `D` has no part in arithmetic: an instruction that adds or subtracts takes states that differ in `D` to states
that differ in `D`. -/

namespace Sys2Proof

open Machine

/-! ### The bus and the operands do not see `P` -/

section
variable (s : State) (f : Flag) (b : Bool)

theorem Machine.State.read8_setFlag (a : Word) :
    (s.setFlag f b).read8 a = ((s.read8 a).1, (s.read8 a).2.setFlag f b) := by
  cases hp : isPeriph (translate a) with
  | false => rw [State.read8_of_not_periph _ a hp, State.read8_of_not_periph s a hp]; rfl
  | true =>
    cases hs : s.shimmed (translate a) with
    | true => rw [State.read8_of_shimmed (s.setFlag f b) a hp hs, State.read8_of_shimmed s a hp hs]; rfl
    | false => rw [State.read8_of_periph (s.setFlag f b) a hp hs, State.read8_of_periph s a hp hs]; rfl

theorem Machine.State.write8_setFlag (a : Word) (v : Byte) :
    (s.setFlag f b).write8 a v = (s.write8 a v).setFlag f b := by
  simp only [State.write8]
  split <;> rfl

theorem Machine.State.effectiveAddress_setFlag : (s.setFlag f b).effectiveAddress = s.effectiveAddress :=
  funext (State.effectiveAddress_congr (s.setFlag f b) s rfl rfl rfl)

theorem Machine.State.crossed_setFlag (m : AddrMode) : (s.setFlag f b).crossed m = s.crossed m := by
  cases m
  case indirectIndexed nn => simp only [State.crossed, State.zeroPageByte_eq]; rfl
  all_goals rfl

theorem Machine.State.operandPenalty_setFlag (o : Operand) :
    (s.setFlag f b).operandPenalty o = s.operandPenalty o := by
  cases o
  case memory m => exact congrArg Bool.toNat (s.crossed_setFlag f b m)
  all_goals rfl

theorem Machine.State.readOperand_setFlag (o : Operand) :
    (s.setFlag f b).readOperand o = ((s.readOperand o).1, (s.readOperand o).2.setFlag f b) := by
  cases o
  case memory m => simp only [State.readOperand_memory, State.effectiveAddress_setFlag, State.read8_setFlag]
  all_goals rfl

theorem Machine.State.writeBack_setFlag (o : Operand) (ea : AddrMode → Word) (v : Byte) :
    (s.setFlag f b).writeBack o ea v = (s.writeBack o ea v).setFlag f b := by
  cases o
  case memory m => exact s.write8_setFlag f b (ea m) v
  all_goals rfl

end

/-! ### The shapes of instructions, under a flag that their operation does not see -/

section
variable {base : Nat} {o : Operand} {f : Flag} {b : Bool} {s t : State}

theorem Machine.readInstr_setFlag {operate : Byte → State → State}
    (h : ∀ m u, operate m (u.setFlag f b) = (operate m u).setFlag f b) (ht : readInstr base o operate s = .next t) :
    readInstr base o operate (s.setFlag f b) = .next (t.setFlag f b) := by
  cases ht
  simp only [readInstr, State.readOperand_setFlag, State.operandPenalty_setFlag, h]
  rfl

theorem Machine.modifyInstr_setFlag {compute : Byte → State → Byte} {finish : Byte → Byte → State → State}
    (hc : ∀ v u, compute v (u.setFlag f b) = compute v u)
    (hf : ∀ v r u, finish v r (u.setFlag f b) = (finish v r u).setFlag f b)
    (ht : modifyInstr base o compute finish s = .next t) :
    modifyInstr base o compute finish (s.setFlag f b) = .next (t.setFlag f b) := by
  cases ht
  simp only [modifyInstr, State.readOperand_setFlag, State.effectiveAddress_setFlag, State.writeBack_setFlag, hc, hf]
  rfl

end

/-! ### The operations that add -/

/-- The adder is binary, whatever `D` holds (R134). -/
theorem Machine.State.addToA_setFlag_d (s : State) (d : Bool) (m : Byte) :
    (s.setFlag .d d).addToA m = (s.addToA m).setFlag .d d := by
  rw [State.addToA_eq, State.setFlag_eq (s.addToA m)]
  simp [State.flag_setFlag, State.flag_addToA]

theorem Machine.State.setFlag_d_setFlag_c (s : State) (d c : Bool) :
    (s.setFlag .d d).setFlag .c c = (s.setFlag .c c).setFlag .d d := by
  rw [State.setFlag_eq (s.setFlag .d d), State.setFlag_eq (s.setFlag .c c)]
  simp [State.flag_setFlag]

theorem Machine.State.setFlag_d_setFlag_d (s : State) (d e : Bool) :
    (s.setFlag .d d).setFlag .d e = s.setFlag .d e := by
  rw [State.setFlag_eq (s.setFlag .d d), State.setFlag_eq s .d e]
  simp [State.flag_setFlag]

/-- The mnemonics of the instructions that add or subtract (R134). -/
def arithmeticMnemonics : List Mnemonic := [.adc, .sbc, .isb, .rra]

theorem Machine.ReadOp.apply_setFlag_d (op : ReadOp) (h : op.mnemonic ∈ arithmeticMnemonics) (d : Bool) (m : Byte)
    (t : State) : op.apply m (t.setFlag .d d) = (op.apply m t).setFlag .d d := by
  cases op
  case adc | sbc => exact t.addToA_setFlag_d d _
  all_goals exact absurd h (by decide)

/-- No new byte depends on `D`. -/
theorem Machine.ModifyOp.compute_setFlag_d (op : ModifyOp) (d : Bool) (v : Byte) (t : State) :
    op.compute v (t.setFlag .d d) = op.compute v t := by
  cases op
  case rol | ror | rla | rra => simp [ModifyOp.compute, State.flag_setFlag]
  all_goals rfl

theorem Machine.ModifyOp.finish_setFlag_d (op : ModifyOp) (h : op.mnemonic ∈ arithmeticMnemonics) (d : Bool)
    (v r : Byte) (t : State) : op.finish v r (t.setFlag .d d) = (op.finish v r t).setFlag .d d := by
  cases op
  case isb => exact t.addToA_setFlag_d d _
  case rra => simp only [ModifyOp.finish, State.setFlag_d_setFlag_c, State.addToA_setFlag_d]
  all_goals exact absurd h (by decide)

/-! ### A run -/

/-- Their instructions complete, and none of them writes `D`. -/
theorem arithmetic_keeps_d_and_is_mapped {m : Mnemonic} (h : m ∈ arithmeticMnemonics) :
    m ∉ flagWriters .d ∧ m ≠ .unmapped := by
  revert m
  decide

/-- An instruction that adds or subtracts reads or modifies an operand, and does either whatever `D` holds. -/
theorem Machine.Form.run_setFlag_d (f : Form) (h : f.mnemonic ∈ arithmeticMnemonics) (d : Bool) {s t : State}
    (ht : f.run s = .next t) : f.run (s.setFlag .d d) = .next (t.setFlag .d d) := by
  cases f
  case read base o op => exact readInstr_setFlag (op.apply_setFlag_d h d) ht
  case modify base o op => exact modifyInstr_setFlag (op.compute_setFlag_d d) (op.finish_setFlag_d h d) ht
  case store base m op | plain base op | branch op dd =>
    have : op.mnemonic ∉ arithmeticMnemonics := by cases op <;> decide
    exact absurd h this
  case storeIndexed | jump | jumpIndirect | call | skip | stop => simp [Form.mnemonic, arithmeticMnemonics] at h

/-- Settles O54: setting `D` again commutes with the run of the form, which does not write `D`. -/
theorem decimalFlagHasNoEffectOnArithmetic : Obligations.DecimalFlagHasNoEffectOnArithmetic := by
  intro i s hi
  simp only [exec_eq_run]
  rw [mnemonic_eq_form] at hi
  obtain ⟨keeps, mapped⟩ := arithmetic_keeps_d_and_is_mapped hi
  obtain ⟨t, ht⟩ := (form i).run_next (s.setFlag .d false) mapped
  have clear : t.flag .d = false :=
    ((form i).run_flag ht keeps).trans (State.flag_setFlag_same _ _ _ (by decide) (by decide))
  have run := (form i).run_setFlag_d hi true ht
  rw [State.setFlag_d_setFlag_d] at run
  exact ⟨t, ht, clear, run⟩

end Sys2Proof
end

section
/-! The rows of the control, stack and flag instructions, read off their forms as those of the loads are, and the
return that undoes a call. -/

namespace Sys2Proof

open Machine Claims

/-! ### Branches -/

/-- The target of a branch, on integers (R97). -/
theorem add_sext16_eq_ofInt (pc : Word) (dd : Byte) : pc + sext16 dd = BitVec.ofInt 16 (pc.toNat + dd.toInt) := by
  rw [BitVec.ofInt_add, BitVec.ofInt_natCast, BitVec.ofNat_toNat, BitVec.setWidth_eq]
  rfl

/-- Two addresses are in one page when their high bytes agree (R14). -/
theorem hi8_eq_iff (v w : Word) : hi8 v = hi8 w ↔ v.toNat / 256 = w.toNat / 256 := by
  rw [← BitVec.toNat_inj, hi8_toNat, hi8_toNat]

/-- The count of a taken branch (R136): 3, or 4 when the page of the target is another one. -/
theorem taken_branch_cycles (target pc : Word) :
    2 + 1 + (hi8 target != hi8 pc).toNat = if target.toNat / 256 = pc.toNat / 256 then 3 else 4 := by
  by_cases h : hi8 target = hi8 pc
  · rw [h, bne_self_eq_false, if_pos ((hi8_eq_iff target pc).1 h)]; rfl
  · rw [bne_iff_ne.2 h, if_neg (mt (hi8_eq_iff target pc).2 h)]; rfl

/-- The row of a branch, by its form at every displacement. -/
theorem branchRow_of_form (op : BranchOp) {opcode : Byte} {i : Byte → Instr}
    (entry : ∀ dd, (i dd).wellFormed = true ∧ encode (i dd) = [opcode, dd] ∧ form (i dd) = .branch op dd) :
    BranchRow opcode i op.taken := by
  intro dd
  obtain ⟨wf, code, hf⟩ := entry dd
  refine row_of_form wf code fun s => ?_
  rw [hf, Form.run, branch, taken_branch_cycles, add_sext16_eq_ofInt]
  rfl

/-- Settles O39: each branch by the condition of its form. -/
theorem branchesTakeTheirConditions : Obligations.BranchesTakeTheirConditions :=
  ⟨branchRow_of_form .bcc fun _ => ⟨rfl, rfl, rfl⟩, branchRow_of_form .bcs fun _ => ⟨rfl, rfl, rfl⟩,
    branchRow_of_form .beq fun _ => ⟨rfl, rfl, rfl⟩, branchRow_of_form .bmi fun _ => ⟨rfl, rfl, rfl⟩,
    branchRow_of_form .bne fun _ => ⟨rfl, rfl, rfl⟩, branchRow_of_form .bpl fun _ => ⟨rfl, rfl, rfl⟩,
    branchRow_of_form .bvc fun _ => ⟨rfl, rfl, rfl⟩, branchRow_of_form .bvs fun _ => ⟨rfl, rfl, rfl⟩⟩

/-! ### Jumps, call and return -/

/-- Settles O40: an indirect jump by the low byte of its pointer. -/
theorem jumpsSetPc : Obligations.JumpsSetPc := by
  refine ⟨fun _ => row_of_form rfl rfl fun _ => rfl, fun ptr => row_of_form rfl rfl fun s => ?_⟩
  rw [form, Form.run, State.indirectTarget]
  by_cases wraps : lo8 ptr = 0xFF#8
  · simp only [wraps, if_true]; rfl
  · simp only [wraps, if_false]; rfl

/-- Settles O41: the runs of the two forms push and pull as the rows say. -/
theorem callAndReturn : Obligations.CallAndReturn :=
  ⟨fun _ => row_of_form rfl rfl fun _ => rfl, row_of_form rfl rfl fun _ => rfl⟩

/-! ### Pulling what was pushed -/

section
variable {s u : State}

/-- A pull with `SP` where a push left it gives the byte that stands in the slot of that push. -/
theorem Machine.State.pull_after_push (v : Byte) (h : hi8 s.sp = 0x01#8) (hsp : u.sp = (s.push v).sp)
    (hv : u.byteAt s.sp.toNat = v) : u.pull = (v, { u with sp := s.sp }) := by
  rw [State.pull_eq, hsp, State.push_sp, State.setSp, setSp_pred_succ _ h, hv]

theorem Machine.State.byteAt_push_same (v : Byte) (h : hi8 s.sp = 0x01#8) : (s.push v).byteAt s.sp.toNat = v := by
  simp [State.byteAt, translate_page_one _ h]

/-- The next push stores elsewhere: `SP` moves (R32). -/
theorem Machine.State.sp_ne_push_sp (s : State) (v : Byte) : s.sp ≠ (s.push v).sp := by
  intro same
  have low : lo8 s.sp = lo8 s.sp - 1#8 := (congrArg lo8 same).trans (by rw [State.push_sp, lo8_setSp, lo8_sub]; rfl)
  bv_omega

/-- The second byte pushed leaves the first one where it was. -/
theorem Machine.State.byteAt_push_push (v w : Byte) (h : hi8 s.sp = 0x01#8) :
    ((s.push v).push w).byteAt s.sp.toNat = v := by
  have slot : Machine.translate (s.push v).sp = (s.push v).sp := translate_page_one _ (hi8_setSp _)
  rw [State.byteAt_push_other, State.byteAt_push_same v h]
  rw [slot]
  exact fun same => s.sp_ne_push_sp v (BitVec.eq_of_toNat_eq same)

/-- Pulling a word with `SP` and Storage as a push of it left them, "high byte then low byte" (R147, R148). -/
theorem Machine.State.pullWord_after_pushWord (v : Word) (h : hi8 s.sp = 0x01#8)
    (hsp : u.sp = (s.pushWord .highFirst v).sp) (hm : u.storage = (s.pushWord .highFirst v).storage) :
    u.pullWord = (v, { u with sp := s.sp }) := by
  have bytes := State.byteAt_congr u _ hm
  have low : u.pull = (lo8 v, { u with sp := (s.push (hi8 v)).sp }) :=
    State.pull_after_push _ (hi8_setSp _) hsp ((bytes _).trans (State.byteAt_push_same _ (hi8_setSp _)))
  have high : ({ u with sp := (s.push (hi8 v)).sp } : State).pull = (hi8 v, { u with sp := s.sp }) :=
    State.pull_after_push _ h rfl ((bytes _).trans (State.byteAt_push_push _ _ h))
  rw [State.pullWord, low, high, word_hi8_lo8]

end

/-- Settles O58: the word pulled is the one pushed, `PC - 1`. -/
theorem returnUndoesCall : Obligations.ReturnUndoesCall := by
  intro s t u addr inv call hsp hm
  rw [exec_eq_run] at call
  cases call
  have pulled := State.pullWord_after_pushWord (s.pc - 1) inv.sp_in_page_one hsp hm
  refine ⟨_, exec_eq_run .rts u, ?_, ?_⟩
  · show u.pullWord.2.sp = s.sp
    rw [pulled]
  · show u.pullWord.1 + 1 = s.pc
    rw [pulled, BitVec.sub_add_cancel]

/-! ### Taking and leaving a trap -/

section
variable (s : State) (a : Word) (lo : 0x4014 < a.toNat)
include lo

/-- Above the peripheral offsets an address translates to itself (R43). -/
theorem Machine.translate_above_periph : Machine.translate a = a := by
  apply BitVec.eq_of_toNat_eq
  rw [translate_toNat, if_neg (by omega), if_neg (by omega)]

theorem Machine.State.read8_above_periph : s.read8 a = (s.byteAt a.toNat, s) := by
  have fixed := translate_above_periph a lo
  have plain : isPeriph a = false := by
    rw [← Bool.not_eq_true, isPeriph_iff]
    omega
  rw [State.read8_of_not_periph s a (by rwa [fixed]), fixed]

/-- A word read there is two Storage bytes, whatever `READ16_RETRANSLATE` says, and has no effect (R46, R47). -/
theorem Machine.State.read16_above_periph (hi : a.toNat < 0xFFFF) :
    s.read16 a = (word (s.byteAt (a.toNat + 1)) (s.byteAt a.toNat), s) := by
  have high : s.read16High a = (s.byteAt (a.toNat + 1), s) := by
    cases hr : s.config.read16Retranslate with
    | false =>
      rw [State.read16High_untranslated s a hr, translate_above_periph a lo, Nat.mod_eq_of_lt (by omega)]
    | true =>
      have next : (a + 1).toNat = a.toNat + 1 := by bv_omega
      rw [State.read16High_retranslated s a hr, State.read8_above_periph _ _ (by omega), next]
  rw [State.read16, State.read8_above_periph s a lo, high]

end

/-- Taking an exception through a vector above the peripheral offsets, all of it (R149, R186). -/
theorem Machine.State.takeException_eq (s : State) (ret : Word) (order : PushOrder) (status : Byte) (vector : Word)
    (lo : 0x4014 < vector.toNat) (hi : vector.toNat < 0xFFFF) :
    s.takeException ret order status vector =
      let t := (s.pushWord order ret).push status
      { t with
        p := statusByte (s.flag .n) (s.flag .v) (s.flag .d) true (s.flag .z) (s.flag .c)
        pc := word (t.byteAt (vector.toNat + 1)) (t.byteAt vector.toNat) } := by
  have flags (f : Flag) : ((s.pushWord order ret).push status).flag f = s.flag f := State.flag_congr (by simp) f
  rw [State.takeException, State.read16_above_periph _ _ lo hi, State.setFlag_eq]
  simp only [flags]
  rfl

/-- `opPC` plus the offset (R180), on naturals: subtracting 1 is adding 0xFFFF modulo 65536. -/
theorem sub_one_add_ofNat (pc : Word) (n : Nat) :
    pc - 1 + BitVec.ofNat 16 n = BitVec.ofNat 16 (pc.toNat + 0xFFFF + n) := by
  rw [BitVec.ofNat_add, BitVec.ofNat_add, BitVec.ofNat_toNat, BitVec.setWidth_eq, BitVec.sub_eq_add_neg]
  rfl

/-- Settles O42: the exception is taken with the software's status byte, through 0xFFFE. -/
theorem breakTakesTheSoftwareTrap : Obligations.BreakTakesTheSoftwareTrap := by
  refine row_of_form rfl rfl fun s => ?_
  rw [form, Form.run, PlainOp.apply, State.takeException_eq _ _ _ _ _ (by decide) (by decide), sub_one_add_ofNat]
  rfl

/-- A pull does not see `P`. -/
theorem Machine.State.pull_setP (s : State) (v : Byte) : (s.setP v).pull = (s.pull.1, s.pull.2.setP v) := by
  rw [State.pull_eq, State.pull_eq]
  rfl

/-- Settles O43: the write of `P` between the pulls commutes with them. -/
theorem returnFromInterruptRestores : Obligations.ReturnFromInterruptRestores := by
  refine row_of_form rfl rfl fun s => ?_
  simp only [form, Form.run, PlainOp.apply, State.returnFromException, State.pullWord, State.pull_setP]
  rfl

/-! ### Stack and flag instructions -/

/-- Settles O44: a push or a pull each, and PLA loads `A` with the byte pulled. -/
theorem stackInstructionsPushAndPull : Obligations.StackInstructionsPushAndPull := by
  have pla (s : State) : PlainOp.pla.apply s = putA s.pull.1 s.pull.2 := s.pull.2.setA_eq_putA s.pull.1
  exact ⟨row_of_form rfl rfl fun _ => rfl, row_of_form rfl rfl fun _ => rfl, plainRow_of_form pla rfl rfl rfl,
    row_of_form rfl rfl fun _ => rfl⟩

/-- The row of an instruction that writes one flag. -/
theorem flagRow_of_form (f : Flag) (b : Bool) {opcode : Byte} {i : Instr} {base : Nat} {op : PlainOp}
    (apply : ∀ s, op.apply s = s.setFlag f b) (wf : i.wellFormed = true) (code : encode i = [opcode])
    (hf : form i = .plain base op) :
    Row [opcode] i fun s => { s with
      p := statusByte (if f = .n then b else s.flag .n) (if f = .v then b else s.flag .v)
        (if f = .d then b else s.flag .d) (if f = .i then b else s.flag .i) (if f = .z then b else s.flag .z)
        (if f = .c then b else s.flag .c)
      cycles := base } :=
  plainRow_of_form (fun s => (apply s).trans (s.setFlag_eq f b)) wf code hf

/-- Settles O45: each writes its flag and no other. -/
theorem flagInstructionsWriteOneFlag : Obligations.FlagInstructionsWriteOneFlag :=
  ⟨flagRow_of_form .c false (fun _ => rfl) rfl rfl rfl, flagRow_of_form .d false (fun _ => rfl) rfl rfl rfl,
    flagRow_of_form .i false (fun _ => rfl) rfl rfl rfl, flagRow_of_form .v false (fun _ => rfl) rfl rfl rfl,
    flagRow_of_form .c true (fun _ => rfl) rfl rfl rfl, flagRow_of_form .d true (fun _ => rfl) rfl rfl rfl,
    flagRow_of_form .i true (fun _ => rfl) rfl rfl rfl, row_of_form rfl rfl fun _ => rfl⟩

end Sys2Proof
end

section
/-! The rows of the undocumented instructions, read off their forms as those of the documented ones are: the NOPs with
an operand, LAX, and the read-modify-writes that go on with a second operation. -/

namespace Sys2Proof

open Machine Claims

/-! ### NOPs with an operand -/

/-- The row of a NOP, by its count. -/
theorem skipRow_of_form {bytes : List Byte} {i : Instr} {base : Nat} {o : Operand} {count : State → Nat}
    (cycles : ∀ s, base + s.operandPenalty o = count s) (wf : i.wellFormed = true) (code : encode i = bytes)
    (hf : form i = .skip base o) : Row bytes i fun s => { s with cycles := count s } := by
  obtain rfl : (fun s => base + s.operandPenalty o) = count := funext cycles
  exact row_of_form wf code fun s => hf ▸ rfl

/-- Settles O46: the count is fixed for every operand but an absolute,X one, which adds 1 if it crosses. -/
theorem undocumentedNopsOnlyTakeTheirBytes : Obligations.UndocumentedNopsOnlyTakeTheirBytes := by
  intro nn addr
  have implied (s : State) : 2 + s.operandPenalty .accumulator = 2 := rfl
  have imm (s : State) : 2 + s.operandPenalty (.immediate nn) = 2 := rfl
  have zp (s : State) : 3 + s.operandPenalty (.memory (.zeroPage nn)) = 3 := rfl
  have zpX (s : State) : 4 + s.operandPenalty (.memory (.zeroPageX nn)) = 4 := rfl
  have abs (s : State) : 4 + s.operandPenalty (.memory (.absolute addr)) = 4 := rfl
  have absX (s : State) : 4 + s.operandPenalty (.memory (.absoluteX addr)) =
      if s.crossed (.absoluteX addr) then 5 else 4 := by
    rw [State.operandPenalty_memory, add_ite]
  exact ⟨
    skipRow_of_form zp rfl rfl rfl, skipRow_of_form abs rfl rfl rfl, skipRow_of_form zpX rfl rfl rfl,
    skipRow_of_form implied rfl rfl rfl, skipRow_of_form absX rfl rfl rfl, skipRow_of_form zpX rfl rfl rfl,
    skipRow_of_form implied rfl rfl rfl, skipRow_of_form absX rfl rfl rfl, skipRow_of_form zp rfl rfl rfl,
    skipRow_of_form zpX rfl rfl rfl, skipRow_of_form implied rfl rfl rfl, skipRow_of_form absX rfl rfl rfl,
    skipRow_of_form zp rfl rfl rfl, skipRow_of_form zpX rfl rfl rfl, skipRow_of_form implied rfl rfl rfl,
    skipRow_of_form absX rfl rfl rfl, skipRow_of_form imm rfl rfl rfl, skipRow_of_form imm rfl rfl rfl,
    skipRow_of_form imm rfl rfl rfl, skipRow_of_form imm rfl rfl rfl, skipRow_of_form zpX rfl rfl rfl,
    skipRow_of_form implied rfl rfl rfl, skipRow_of_form absX rfl rfl rfl, skipRow_of_form imm rfl rfl rfl,
    skipRow_of_form zpX rfl rfl rfl, skipRow_of_form implied rfl rfl rfl, skipRow_of_form absX rfl rfl rfl⟩

/-! ### LAX -/

/-- The second `SetNZ` of LAX writes the flags of the first once more (R166). -/
theorem Machine.ReadOp.lax_apply (m : Byte) (t : State) :
    ReadOp.lax.apply m t = { t with a := m, x := m, p := nz m t } := by
  rw [ReadOp.apply, State.setX_eq_putX]
  simp [putX, nz, State.flag_setA, State.flag_setNZ]

/-- Settles O47: one load of both registers. -/
theorem laxLoadsBothRegisters : Obligations.LaxLoadsBothRegisters :=
  fun _ _ => ⟨
    readRow_of_form ReadOp.lax_apply rfl rfl rfl, readRow_of_form ReadOp.lax_apply rfl rfl rfl,
    readRow_of_form ReadOp.lax_apply rfl rfl rfl, readRow_of_form ReadOp.lax_apply rfl rfl rfl,
    readRow_of_form ReadOp.lax_apply rfl rfl rfl, readRow_of_form ReadOp.lax_apply rfl rfl rfl⟩

/-! ### The second operation of a composition -/

/-- A load of `A` after a write of `C`. -/
theorem Machine.State.setFlag_c_setA (t : State) (c : Bool) (w : Byte) :
    (t.setFlag .c c).setA w = { t with a := w, p := nzc w c t } :=
  State.setFlag_c_setNZ { t with a := w } c w

/-- The add of RRA takes the bit the rotate shifted into `C` (R174). -/
theorem Machine.State.setFlag_c_addToA_eq_thenAdd (t : State) (v r : Byte) :
    (t.setFlag .c (v.getLsbD 0)).addToA r = thenAdd v r t := by
  have carry : (v.getLsbD 0).toNat = v.toNat % 2 := by
    rw [BitVec.getLsbD, Nat.toNat_testBit, pow_zero, Nat.div_one]
  rw [State.addToA_eq_adcResult, thenAdd, ← carry]
  simp [adcResult, State.flag_setFlag]

/-- Settles O48: a new byte for each first operation, and one equation for each second. -/
theorem undocumentedCompositions : Obligations.UndocumentedCompositions := by
  have dec (v : Byte) (t : State) : ModifyOp.dcp.compute v t = decremented v (t.flag .c) := sub_one_eq_decremented v _
  have inc (v : Byte) (t : State) : ModifyOp.isb.compute v t = incremented v (t.flag .c) := add_one_eq_incremented v _
  have asl (v : Byte) (t : State) : ModifyOp.slo.compute v t = shiftedLeft v (t.flag .c) :=
    shiftLeft_eq_shiftedLeft v _
  have rol (v : Byte) (t : State) : ModifyOp.rla.compute v t = rotatedLeft v (t.flag .c) :=
    rotateLeft_eq_rotatedLeft v _
  have lsr (v : Byte) (t : State) : ModifyOp.sre.compute v t = shiftedRight v (t.flag .c) :=
    shiftRight_eq_shiftedRight v _
  have ror (v : Byte) (t : State) : ModifyOp.rra.compute v t = rotatedRight v (t.flag .c) :=
    rotateRight_eq_rotatedRight v _
  have cmp (v r : Byte) (t : State) : ModifyOp.dcp.finish v r t = thenCompare v r t := t.compare_eq_compareP t.a r
  have sbc (v r : Byte) (t : State) : ModifyOp.isb.finish v r t = thenSubtract v r t := t.addToA_not_eq_sbcResult r
  have ora (v r : Byte) (t : State) : ModifyOp.slo.finish v r t = thenOr v r t := by
    rw [thenOr, ← byte_msb]
    exact t.setFlag_c_setA _ _
  have and (v r : Byte) (t : State) : ModifyOp.rla.finish v r t = thenAnd v r t := by
    rw [thenAnd, ← byte_msb]
    exact t.setFlag_c_setA _ _
  have eor (v r : Byte) (t : State) : ModifyOp.sre.finish v r t = thenXor v r t := by
    rw [thenXor, ← byte_getLsbD_zero]
    exact t.setFlag_c_setA _ _
  have adc (v r : Byte) (t : State) : ModifyOp.rra.finish v r t = thenAdd v r t := t.setFlag_c_addToA_eq_thenAdd v r
  exact fun _ _ => ⟨
    modifyRow_of_form dec cmp rfl rfl rfl, modifyRow_of_form dec cmp rfl rfl rfl,
    modifyRow_of_form dec cmp rfl rfl rfl, modifyRow_of_form dec cmp rfl rfl rfl,
    modifyRow_of_form dec cmp rfl rfl rfl, modifyRow_of_form dec cmp rfl rfl rfl,
    modifyRow_of_form dec cmp rfl rfl rfl,
    modifyRow_of_form inc sbc rfl rfl rfl, modifyRow_of_form inc sbc rfl rfl rfl,
    modifyRow_of_form inc sbc rfl rfl rfl, modifyRow_of_form inc sbc rfl rfl rfl,
    modifyRow_of_form inc sbc rfl rfl rfl, modifyRow_of_form inc sbc rfl rfl rfl,
    modifyRow_of_form inc sbc rfl rfl rfl,
    modifyRow_of_form asl ora rfl rfl rfl, modifyRow_of_form asl ora rfl rfl rfl,
    modifyRow_of_form asl ora rfl rfl rfl, modifyRow_of_form asl ora rfl rfl rfl,
    modifyRow_of_form asl ora rfl rfl rfl, modifyRow_of_form asl ora rfl rfl rfl,
    modifyRow_of_form asl ora rfl rfl rfl,
    modifyRow_of_form rol and rfl rfl rfl, modifyRow_of_form rol and rfl rfl rfl,
    modifyRow_of_form rol and rfl rfl rfl, modifyRow_of_form rol and rfl rfl rfl,
    modifyRow_of_form rol and rfl rfl rfl, modifyRow_of_form rol and rfl rfl rfl,
    modifyRow_of_form rol and rfl rfl rfl,
    modifyRow_of_form lsr eor rfl rfl rfl, modifyRow_of_form lsr eor rfl rfl rfl,
    modifyRow_of_form lsr eor rfl rfl rfl, modifyRow_of_form lsr eor rfl rfl rfl,
    modifyRow_of_form lsr eor rfl rfl rfl, modifyRow_of_form lsr eor rfl rfl rfl,
    modifyRow_of_form lsr eor rfl rfl rfl,
    modifyRow_of_form ror adc rfl rfl rfl, modifyRow_of_form ror adc rfl rfl rfl,
    modifyRow_of_form ror adc rfl rfl rfl, modifyRow_of_form ror adc rfl rfl rfl,
    modifyRow_of_form ror adc rfl rfl rfl, modifyRow_of_form ror adc rfl rfl rfl,
    modifyRow_of_form ror adc rfl rfl rfl⟩

end Sys2Proof
end

section
/-! The fatal fault, the interrupts between steps, and the return that undoes a software trap. -/

namespace Sys2Proof

open Machine Claims

/-! ### The fatal fault -/

/-- Settles O7: the stop is the one form that does not complete. -/
theorem unmappedInstructionStops : Obligations.UnmappedInstructionStops := by
  refine ⟨fun _ _ => rfl, fun i s mapped => ?_⟩
  rw [exec_eq_run]
  exact (form i).run_next s (mnemonic_eq_form i ▸ mapped)

/-- The state a step's fatal fault leaves is halted (R178). -/
theorem Machine.step_fault_halted {s left : State} {op : Byte} {a : Word}
    (h : step s = .fault (.unmappedOpcode op a left)) : left.halted = true := by
  rcases step_cases s with hs | ⟨k, hs⟩ | hs <;> rw [hs] at h
  · cases h
  · cases h
  · rw [exec_eq_run] at h
    obtain ⟨_, -, hr⟩ := Form.run_fault _ _ _ h
    cases hr
    rfl

theorem Machine.resetBlock_of_halted {s : State} (h : s.halted = true) : resetBlock s = .refused .resetAfterFault :=
  if_pos h

/-- Settles O8: the halt mark is what both calls look at, and the fault sets it. -/
theorem haltedBlockHasNoFurtherOutcome : Obligations.HaltedBlockHasNoFurtherOutcome :=
  ⟨fun s h => ⟨step_of_halted s h, resetBlock_of_halted h⟩, fun _ _ _ _ h => step_fault_halted h⟩

/-- A step that fetches an opcode outside `MAPPED_SET` is the fault at the state that fetch leaves, with `PC` put
back (R76, R177). -/
theorem Machine.step_of_unmapped {s : State} (hf : Fetches s)
    (unmapped : inMappedSet s.config s.beginStep.fetch8.1 = false) :
    step s = .fault (.unmappedOpcode s.beginStep.fetch8.1 s.pc
      { s.beginStep.fetch8.2 with pc := s.pc, halted := true }) := by
  obtain ⟨running, quiet⟩ := hf
  have back : s.beginStep.fetch8.2.pc - 1 = s.pc := by rw [State.fetch8_pc, BitVec.add_sub_cancel]; rfl
  rw [step_of_fetch s running quiet, State.fetchInstr_of_unmapped _ unmapped, exec_eq_run]
  simp only [form, Form.run, raiseFatal, back]

/-- A read makes no port call, or the one `PeripheralRead` of a `PERIPH` address (R46, R51). -/
theorem Machine.State.read8_portCalls (s : State) (a : Word) :
    (s.read8 a).2.portCalls = s.portCalls ∨ ∃ v, isPeriph (Machine.translate a) = true ∧
      (s.read8 a).2.portCalls = s.portCalls ++ [.peripheralRead (Machine.translate a) v] := by
  cases hp : isPeriph (Machine.translate a) with
  | false => exact .inl (by rw [State.read8_of_not_periph s a hp])
  | true =>
    rcases s.read8_state a with h | ⟨v, h⟩ <;> rw [h]
    · exact .inl rfl
    · exact .inr ⟨v, rfl, rfl⟩

/-- Settles O6: the step is the fault after the fetch of the opcode, which is one read. -/
theorem unmappedOpcodeIsFatalAndChangesNothing : Obligations.UnmappedOpcodeIsFatalAndChangesNothing := by
  intro s hf op outside
  have unmapped : inMappedSet s.config s.beginStep.fetch8.1 = false := by
    rw [← Bool.not_eq_true, inMappedSet, Bool.and_eq_true, Bool.not_eq_true']
    rintro ⟨handled, kept⟩
    rcases outside with h | h
    · exact Bool.false_ne_true (h.symm.trans handled)
    · exact Bool.false_ne_true (kept.symm.trans h)
  refine ⟨_, step_of_unmapped hf unmapped, by simp [SameRegistersAndStorage], rfl, by simp, rfl, ?_⟩
  exact State.read8_portCalls { begun s with pc := s.pc + 1 } s.pc

/-! ### The interrupts -/

section
variable {s : State}

theorem Machine.State.pendingInterrupt_nmi (on : s.config.hwInterrupts = true) (latched : s.nmiPending = true) :
    s.pendingInterrupt = some .nmi := by
  simp [State.pendingInterrupt, on, latched]

theorem Machine.State.pendingInterrupt_irq (on : s.config.hwInterrupts = true) (clear : s.nmiPending = false)
    (asserted : s.irqLine = true) (unmasked : s.flag .i = false) : s.pendingInterrupt = some .irq := by
  simp [State.pendingInterrupt, on, clear, asserted, unmasked]

/-- An IRQ that is not asserted, or masked by `I`, is not pending (R185). -/
theorem Machine.State.pendingInterrupt_none (clear : s.nmiPending = false)
    (quiet : s.irqLine = false ∨ s.flag .i = true) : s.pendingInterrupt = none := by
  rcases quiet with h | h <;> simp [State.pendingInterrupt, clear, h]

end

/-- A push does not see the NMI latch. -/
theorem Machine.State.push_withNmiPending (s : State) (b : Bool) (v : Byte) :
    ({ s with nmiPending := b } : State).push v = { s.push v with nmiPending := b } := by
  simp only [State.push, State.write8]
  split <;> rfl

/-- Taking an interrupt leaves the latch clear: an NMI clears it, and an IRQ is taken only where it is (R185). -/
theorem Machine.State.takeInterrupt_eq (s : State) (k : Interrupt) (h : k = .irq → s.nmiPending = false) :
    s.takeInterrupt k =
      (({ s with nmiPending := false } : State).takeException s.pc .highFirst (pushedByInterrupt s.p)
        k.vector).charge 7 := by
  cases k with
  | nmi => rfl
  | irq => rw [← h rfl]; rfl

/-- Taking an interrupt is the entry through its vector (R186). -/
theorem Machine.State.takeInterrupt_entry (s : State) (k : Interrupt) (h : k = .irq → s.nmiPending = false) :
    InterruptEntry s k.vector.toNat false (s.takeInterrupt k) := by
  have lo : 0x4014 < k.vector.toNat := by cases k <;> decide
  have hi : k.vector.toNat < 0xFFFF := by cases k <;> decide
  rw [State.takeInterrupt_eq s k h, State.takeException_eq _ _ _ _ _ lo hi]
  simp only [State.pushWord, State.push_withNmiPending]
  rfl

/-- Settles O59: which interrupt is pending, by the latch, the level and `I`; the entry of either is one lemma. -/
theorem interruptsAreTakenBetweenSteps : Obligations.InterruptsAreTakenBetweenSteps := by
  refine ⟨fun s on => ⟨s.assertNmi_of_extension on, fun level => s.setIrq_of_extension level on⟩,
    fun s off => ⟨s.assertNmi_of_no_extension off, fun level => s.setIrq_of_no_extension level off,
      s.pendingInterrupt_of_no_extension off⟩,
    fun s running on => ⟨fun latched => ?_, fun clear asserted unmasked => ?_, State.pendingInterrupt_none⟩⟩
  · exact ⟨_, step_of_interrupt s .nmi running (State.pendingInterrupt_nmi on latched),
      s.beginStep.takeInterrupt_entry .nmi nofun⟩
  · exact ⟨_, step_of_interrupt s .irq running (State.pendingInterrupt_irq on clear asserted unmasked),
      s.beginStep.takeInterrupt_entry .irq fun _ => clear⟩

/-! ### The return from a software trap -/

/-- The status byte a software push stores goes back into `P` as it was, where `P` has its hard-wired bits. -/
theorem hardwireP_pushedBySoftware : ∀ p : Byte, p.getLsbD 5 = true → p.getLsbD 4 = false →
    hardwireP (pushedBySoftware p) = p := by
  decide

section
variable {s u : State}

/-- The third push stores elsewhere than the first: `SP` has moved by two (R32). -/
theorem Machine.State.sp_ne_push_push_sp (s : State) (v w : Byte) : s.sp ≠ ((s.push v).push w).sp := by
  intro same
  have low : lo8 s.sp = lo8 s.sp - 2#8 :=
    (congrArg lo8 same).trans (by rw [State.push_sp, lo8_setSp, State.push_sp, setSp_pred_pred, lo8_sub]; rfl)
  bv_omega

/-- Two more pushes leave the first byte pushed where it was. -/
theorem Machine.State.byteAt_push_push_push (v w x : Byte) (h : hi8 s.sp = 0x01#8) :
    (((s.push v).push w).push x).byteAt s.sp.toNat = v := by
  have slot := translate_page_one ((s.push v).push w).sp (hi8_setSp _)
  rw [State.byteAt_push_other, State.byteAt_push_push v w h]
  rw [slot]
  exact fun same => s.sp_ne_push_push_sp v w (BitVec.eq_of_toNat_eq same)

/-- Pulling a word gives the bytes that stand in the two slots of its push. -/
theorem Machine.State.pullWord_of_slots (v : Word) (h : hi8 s.sp = 0x01#8)
    (hsp : u.sp = (s.pushWord .highFirst v).sp) (high : u.byteAt s.sp.toNat = hi8 v)
    (low : u.byteAt (s.push (hi8 v)).sp.toNat = lo8 v) : u.pullWord = (v, { u with sp := s.sp }) := by
  have first : u.pull = (lo8 v, { u with sp := (s.push (hi8 v)).sp }) :=
    State.pull_after_push _ (hi8_setSp _) hsp low
  have second : ({ u with sp := (s.push (hi8 v)).sp } : State).pull = (hi8 v, { u with sp := s.sp }) :=
    State.pull_after_push _ h rfl high
  rw [State.pullWord, first, second, word_hi8_lo8]

theorem Machine.State.takeException_sp (s : State) (ret : Word) (order : PushOrder) (status : Byte) (vector : Word) :
    (s.takeException ret order status vector).sp = ((s.pushWord order ret).push status).sp := by
  simp [State.takeException]

theorem Machine.State.takeException_storage (s : State) (ret : Word) (order : PushOrder) (status : Byte)
    (vector : Word) :
    (s.takeException ret order status vector).storage = ((s.pushWord order ret).push status).storage := by
  simp [State.takeException]

/-- Returning with `SP` and Storage as an exception left them, the high byte pushed first: `SP`, the return address
and the status byte come back (R180, R181). -/
theorem Machine.State.returnFromException_after_takeException (ret : Word) (status : Byte) (vector : Word)
    (h : hi8 s.sp = 0x01#8) (hsp : u.sp = (s.takeException ret .highFirst status vector).sp)
    (hm : u.storage = (s.takeException ret .highFirst status vector).storage) :
    u.returnFromException = { u with sp := s.sp, p := hardwireP status, pc := ret } := by
  rw [State.takeException_sp] at hsp
  have bytes := State.byteAt_congr u _ (hm.trans (s.takeException_storage ret .highFirst status vector))
  have statusPull : u.pull = (status, { u with sp := (s.pushWord .highFirst ret).sp }) :=
    State.pull_after_push _ (hi8_setSp _) hsp ((bytes _).trans (State.byteAt_push_same _ (hi8_setSp _)))
  have wordPull : (({ u with sp := (s.pushWord .highFirst ret).sp } : State).setP status).pullWord =
      (ret, { u with sp := s.sp, p := hardwireP status }) :=
    State.pullWord_of_slots ret h rfl ((bytes _).trans (State.byteAt_push_push_push _ _ _ h))
      ((bytes _).trans (State.byteAt_push_push _ _ (hi8_setSp _)))
  rw [State.returnFromException, statusPull, wordPull]

end

/-- Settles O57: the status byte and the address come back, and the stored bits of `P` are the invariant's. -/
theorem returnFromInterruptUndoesBreak : Obligations.ReturnFromInterruptUndoesBreak := by
  intro s t u inv order trap hsp hm
  rw [exec_eq_run, form, Form.run, PlainOp.apply, order] at trap
  cases trap
  have returned := State.returnFromException_after_takeException _ _ _ inv.sp_in_page_one hsp hm
  refine ⟨_, exec_eq_run .rti u, ?_⟩
  show u.returnFromException.p = s.p ∧ u.returnFromException.sp = s.sp ∧ u.returnFromException.pc = _
  rw [returned]
  exact ⟨hardwireP_pushedBySoftware s.p inv.unused_reads_one inv.break_stored_zero, rfl, rfl⟩

end Sys2Proof
end

section
/-! A placed program and the step that runs it; what the calls of `reset()` are. -/

namespace Sys2Proof

open Machine Claims

/-! ### A placed program -/

section
variable (s : State) (bytes : List Byte)

/-- A placed program is not halted and has no interrupt pending, so the next step fetches (log entry 5). -/
theorem Machine.State.placeProgram_fetches : Fetches (s.placeProgram bytes) :=
  ⟨rfl, State.pendingInterrupt_none rfl (.inl rfl)⟩

/-- The bytes of a placed program stand in Storage from 0x8000 up. -/
theorem Machine.State.byteAt_placeProgram (k : Nat) (h : k < bytes.length) :
    (s.placeProgram bytes).byteAt (0x8000 + k) = bytes[k] := by
  simp [State.placeProgram, programBase, State.byteAt, Memory.lookup_writeBytes, h]

/-- A placed program that ends inside Storage is code where it is placed: no byte of it is at a peripheral offset
(R44, R75). -/
theorem Machine.State.placeProgram_codeAt (fits : bytes.length ≤ 0x8000) :
    CodeAt (s.placeProgram bytes) programBase bytes := by
  intro k h
  have place : (programBase + BitVec.ofNat 16 k).toNat = 0x8000 + k := by
    rw [BitVec.toNat_add, BitVec.toNat_ofNat, programBase, BitVec.toNat_ofNat]
    omega
  have fixed := translate_above_periph (programBase + BitVec.ofNat 16 k) (by omega)
  rw [fixed, place]
  refine ⟨?_, s.byteAt_placeProgram bytes k h⟩
  rw [← Bool.not_eq_true, isPeriph_iff]
  omega

end

/-- Where a byte string is code, so is each string it begins with. -/
theorem codeAt_of_append {s : State} {a : Word} {bytes rest : List Byte} (code : CodeAt s a (bytes ++ rest)) :
    CodeAt s a bytes := by
  intro k h
  obtain ⟨plain, byte⟩ := code k (by rw [List.length_append]; omega)
  exact ⟨plain, byte.trans (List.getElem_append_left h)⟩

/-- A table word begins with the encoding of the instruction it decodes to, which is well formed (R67). -/
theorem encode_append_eq_tableBytes {nbits w : Nat} {i : Instr} (h : decodeTableWord nbits w = some i) :
    i.wellFormed = true ∧ ∃ rest, encode i ++ rest = tableBytes nbits w := by
  rw [decodeTableWord] at h
  cases decoded : decode (tableBytes nbits w) with
  | rejected r => rw [decoded] at h; cases h
  | ok j rest =>
    rw [decoded] at h
    cases h
    obtain ⟨encoding, wf⟩ := decodedBytesAreTheEncoding _ _ _ decoded
    exact ⟨wf, rest, encoding⟩

/-- Settles O10: the encoding is code at the start of the placed word, and the step runs what stands at `PC`. -/
theorem placedWordIsRun : Obligations.PlacedWordIsRun := by
  intro s nbits w i h kept
  obtain ⟨wf, rest, placed⟩ := encode_append_eq_tableBytes h
  have code : CodeAt (s.withFetchWord nbits w) programBase (encode i ++ rest) := by
    rw [placed]
    exact s.placeProgram_codeAt (tableBytes nbits w) (show 3 ≤ 0x8000 by decide)
  exact stepRunsTheDecodedInstruction (s.withFetchWord nbits w) i (s.placeProgram_fetches _) wf
    (codeAt_of_append code) kept

/-! ### The calls of `reset()` -/

section
variable (s : State) (addr : Word) (o : Word) (v : Byte)

/-- No read calls the sink (R46, R51). -/
theorem Machine.State.registerWrite_not_mem_read8 (h : PortCall.registerWrite o v ∉ s.portCalls) :
    PortCall.registerWrite o v ∉ (s.read8 addr).2.portCalls := by
  rcases s.read8_portCalls addr with calls | ⟨answer, -, calls⟩ <;> rw [calls]
  · exact h
  · simpa using h

theorem Machine.State.registerWrite_not_mem_read16 (h : PortCall.registerWrite o v ∉ s.portCalls) :
    PortCall.registerWrite o v ∉ (s.read16 addr).2.portCalls := by
  have low := s.registerWrite_not_mem_read8 addr o v h
  show PortCall.registerWrite o v ∉ ((s.read8 addr).2.read16High addr).2.portCalls
  unfold State.read16High
  split
  · exact State.registerWrite_not_mem_read8 _ _ o v low
  · exact low

end

section
variable (s : State) (a x y : Byte) (sp : Word) (p : Byte) (cycles : Nat) (addr : Word)

/-- A read neither sees nor writes the registers and the cycle count. -/
theorem Machine.State.read8_withRegisters :
    ({ s with a, x, y, sp, p, cycles } : State).read8 addr =
      ((s.read8 addr).1, { (s.read8 addr).2 with a, x, y, sp, p, cycles }) := by
  cases periph : isPeriph (Machine.translate addr) with
  | false => rw [s.read8_of_not_periph _ periph]; exact State.read8_of_not_periph _ _ periph
  | true =>
    cases shim : s.shimmed (Machine.translate addr) with
    | true => rw [s.read8_of_shimmed _ periph shim]; exact State.read8_of_shimmed _ _ periph shim
    | false => rw [s.read8_of_periph _ periph shim]; exact State.read8_of_periph _ _ periph shim

theorem Machine.State.read16_withRegisters :
    ({ s with a, x, y, sp, p, cycles } : State).read16 addr =
      ((s.read16 addr).1, { (s.read16 addr).2 with a, x, y, sp, p, cycles }) := by
  simp only [State.read16, State.read16High, State.read8_withRegisters]
  split <;> rfl

end

/-- `reset()` in vector mode makes the port calls of the vector's `read16` and no other (R196). -/
theorem Machine.State.applyReset_port_of_vector (s : State) (h : s.config.resetMode = .vector) :
    let vector := (({ s with portCalls := [] } : State).read16 s.config.resetVectorAddr).2
    s.applyReset.portCalls = vector.portCalls ∧ s.applyReset.periphReads = vector.periphReads := by
  rw [State.applyReset_vector s h, State.resetRegisters]
  have read := State.read16_withRegisters { s with portCalls := [] } 0x00#8 0x00#8 0x00#8 0x01FD#16 0x24#8 0
    s.config.resetVectorAddr
  rw [read]
  exact ⟨rfl, rfl⟩

/-- `reset()` in debug mode makes no port call (R196). -/
theorem Machine.State.applyReset_port_of_debug (s : State) (h : s.config.resetMode = .debug) :
    s.applyReset.portCalls = [] ∧ s.applyReset.periphReads = s.periphReads := by
  rw [State.applyReset_debug s h]
  exact ⟨rfl, rfl⟩

/-- `reset()` never calls the sink (R196). -/
theorem Machine.State.registerWrite_not_mem_applyReset (s : State) (o : Word) (v : Byte) :
    PortCall.registerWrite o v ∉ s.applyReset.portCalls := by
  cases mode : s.config.resetMode with
  | vector =>
    rw [(s.applyReset_port_of_vector mode).1]
    exact State.registerWrite_not_mem_read16 _ _ o v List.not_mem_nil
  | debug =>
    rw [(s.applyReset_port_of_debug mode).1]
    exact List.not_mem_nil

/-- What `reset()` leaves as it was, beside the port (R196, log entries 8 and 21), and that it returns no count. -/
theorem Machine.State.applyReset_frame (s : State) :
    s.applyReset.storage = s.storage ∧ s.applyReset.halted = s.halted ∧
      s.applyReset.banksLoaded = s.banksLoaded ∧ s.applyReset.config = s.config ∧
      s.applyReset.nmiPending = s.nmiPending ∧ s.applyReset.irqLine = s.irqLine ∧
      s.applyReset.started = s.started ∧ s.applyReset.cycles = 0 := by
  cases mode : s.config.resetMode with
  | vector => rw [State.applyReset_vector s mode]; simp [State.resetRegisters]
  | debug => rw [State.applyReset_debug s mode]; exact ⟨rfl, rfl, rfl, rfl, rfl, rfl, rfl, rfl⟩

/-- A `reset()` that answers is that of a block not halted (R178, R195). -/
theorem Machine.resetBlock_next {s t : State} (h : resetBlock s = .next t) : t = s.applyReset := by
  unfold Machine.resetBlock at h
  split at h
  · cases h
  · cases h; rfl

/-- Settles O15: the frame of `reset()`, its port calls by the reset mode, and no sink call among them. -/
theorem resetDoesNotChangeStorage : Obligations.ResetDoesNotChangeStorage := by
  intro s t h
  obtain rfl := resetBlock_next h
  obtain ⟨storage, halted, banks, config, nmi, irq, started, cycles⟩ := s.applyReset_frame
  refine ⟨storage, halted, banks, config, nmi, irq, started, cycles, ?_, s.registerWrite_not_mem_applyReset⟩
  split
  case h_1 mode => exact s.applyReset_port_of_vector mode
  case h_2 mode => exact s.applyReset_port_of_debug mode

end Sys2Proof
end
